-- ==== Sys2Proof/Word.lean ====
section
/-! DEFINITION. The word types of the DMA block: bytes, 16- and 32-bit register values, 32-bit byte
addresses (R5, R7) and 5-bit channel numbers (R5: 32 channels). -/

namespace Sys2Proof

/-- One 8-bit byte of the address space (R80). -/
abbrev Byte := BitVec 8

/-- A 16-bit register or descriptor field (R31). -/
abbrev Half := BitVec 16

/-- A 32-bit register or descriptor field (R20, R31). -/
abbrev Word := BitVec 32

/-- A 32-bit byte address; all address arithmetic is modulo 2^32 (R5, R7). -/
abbrev Addr := BitVec 32

/-- A channel number, 0 to 31 (R5, R10). -/
abbrev Chan := BitVec 5

end Sys2Proof
end

