-- ==== Sys2Proof/Config.lean ====
section
/-! DEFINITION. What the spec leaves outside the block: the free values (the `draw` of R8 and R9), each an
opaque constant of which nothing can be proved, and the values the model names for the platform right
after reset. -/

namespace Sys2Proof

/-- Free value: what a device answers to a read of 4 bytes (R83, R86, I4), for each draw of a run and each
address; a narrower read takes its low bytes. See assumption 5. -/
opaque Config.deviceData : Nat → Addr → Word

/-- Free value: which of several channels of equal priority is taken (R203, R211, I9), for each draw of a
run; the model reduces it modulo the number of tied channels. See assumption 6. -/
opaque Config.tieBreak : Nat → Nat

/-- Free value: what a descriptor-slot field other than `CSR` holds after a reset event (R320, R321, I8), for
each draw of a run and each field of the 32 slots (slot `n`, field `i` has index `16 * n + i`).
See assumption 4. -/
opaque Config.unspecified : Nat → Nat → Word

/-- `DMA_BASE div 0x2000` of the platform named for `State.reset` (R5 leaves the base OPEN).
DESIGN CHOICE, unsafe only for a claim about `State.reset` itself: assumption 2. -/
def Config.resetDmaPage : BitVec 19 := 0x24000#19

/-- `MUX_BASE div 0x80` of the platform named for `State.reset` (R5 leaves the base OPEN).
DESIGN CHOICE: assumption 2. -/
def Config.resetMuxPage : BitVec 25 := 0x900040#25

end Sys2Proof
end

