-- ==== Sys2Proof/Syntax.lean ====
section
/-! DEFINITION. The words the DMA block decodes: one constructor of `Instr` for every row of the opcode
table (R128), with the formats they are written in and the reasons a word can be no operation. -/

namespace Sys2Proof

/-- Direction of an access: host accesses (R230) and engine bus accesses (R83). -/
inductive Dir where
  | read
  | write
deriving DecidableEq, Repr, Inhabited

/-- A host access to one register of width `w` bits: a load, or a store of a value (R230). -/
inductive Access (w : Nat) where
  | read
  | write (v : BitVec w)
deriving DecidableEq, Repr

/-- A descriptor: the eleven fields of the 32-byte image and of a channel's slot (R30, R31, R110). The
fields stay as the bits that were written (R34); `Machine/Operands.lean` decodes them. -/
structure Tcd where
  saddr    : Word
  soff     : Half
  attr     : Half
  nbytes   : Word
  slast    : Word
  daddr    : Word
  doff     : Half
  citer    : Half
  dlastSga : Word
  csr      : Half
  biter    : Half
deriving DecidableEq, Repr, Inhabited

/-- The fields of a slot by name (R31). -/
inductive SlotField where
  | saddr | soff | attr | nbytes | slast | daddr | doff | citer | dlastSga | csr | biter
deriving DecidableEq, Repr

/-- The fields of an `ATTR` word (R111). -/
structure AttrWord where
  smod  : BitVec 5
  ssize : BitVec 3
  dmod  : BitVec 5
  dsize : BitVec 3
deriving DecidableEq, Repr

/-- The fields of a `CSR` word (R114), bit 13 (reserved) and bit 6 (`ACTIVE`) among them: a word may hold
anything there, and the operations that take the word drop both. -/
structure CsrWord where
  bwc         : BitVec 2
  rsvd        : Bool
  majorLinkCh : Chan
  done        : Bool
  active      : Bool
  majorElink  : Bool
  esg         : Bool
  dreq        : Bool
  intHalf     : Bool
  intMajor    : Bool
  start       : Bool
deriving DecidableEq, Repr

/-- The two fields that have the iteration-count layout of R113. -/
inductive IterField where
  | citer
  | biter
deriving DecidableEq, Repr

/-- The formats of the opcode table (R128). The last five are the words of a descriptor's fields. -/
inductive Format where
  | cmd8 | eng16 | mux8 | tcd256 | attr | nbytes | iter | csr | dlastSga
deriving DecidableEq, Repr

/-- A register of the engine's surface that an offset selects (R20, R121). `command k` is the command
register at offset `0x18 + k`. -/
inductive EngReg where
  | cr | es | erq | eei | int | err | hrs
  | command (k : BitVec 3)
  | dchpri (n : Chan)
  | slot (n : Chan) (f : SlotField)
deriving DecidableEq, Repr

/-- Why bytes are no operation of the table. -/
inductive DecodeError where
  /-- The number of bytes is not that of the format: no access (assumption 18). -/
  | length
  /-- A `CMD8` word, a 1-byte write to `ENG`, whose offset is no command register (R120): it selects no register,
  bus error to the host (R121, R232). -/
  | notACommand
  /-- An offset inside a surface, or a width there, that selects no register: bus error to the host (R232). -/
  | unmapped
  /-- A read of one of the eight write-only command registers: it returns 0 (R25, R232). -/
  | writeOnlyRead
  /-- An offset outside the 8 KiB of `ENG` or the 128 bytes of `MUX` (R230): it selects no register, bus error to
  the host (R121, R122, R232). -/
  | outsideSurface
deriving DecidableEq, Repr

/-- The operations of the opcode table, one constructor per row. Command forms name a channel, all channels
or none (R120). Register rows carry the host access made to the register (R230); `n` is the channel
whose register it is. `tcd` and the rows after it are a descriptor and the words of its fields (R110 to
R115), for slot `n`. -/
inductive Instr where
  -- CMD8
  | ceei (ch : Chan) | ceeiAll | ceeiNop
  | seei (ch : Chan) | seeiAll | seeiNop
  | cerq (ch : Chan) | cerqAll | cerqNop
  | serq (ch : Chan) | serqAll | serqNop
  | cdne (ch : Chan) | cdneAll | cdneNop
  | ssrt (ch : Chan) | ssrtAll | ssrtNop
  | cerr (ch : Chan) | cerrAll | cerrNop
  | cint (ch : Chan) | cintAll | cintNop
  -- ENG16
  | cr (a : Access 32)
  | es (a : Access 32)
  | erq (a : Access 32)
  | eei (a : Access 32)
  | int (a : Access 32)
  | err (a : Access 32)
  | hrs (a : Access 32)
  | dchpri (n : Chan) (a : Access 8)
  | tcdSaddr (n : Chan) (a : Access 32)
  | tcdSoff (n : Chan) (a : Access 16)
  | tcdAttr (n : Chan) (a : Access 16)
  | tcdNbytes (n : Chan) (a : Access 32)
  | tcdSlast (n : Chan) (a : Access 32)
  | tcdDaddr (n : Chan) (a : Access 32)
  | tcdDoff (n : Chan) (a : Access 16)
  | tcdCiter (n : Chan) (a : Access 16)
  | tcdDlastSga (n : Chan) (a : Access 32)
  | tcdCsr (n : Chan) (a : Access 16)
  | tcdBiter (n : Chan) (a : Access 16)
  -- MUX8
  | chcfg (n : Chan) (a : Access 32)
  -- TCD256 and its field words
  | tcd (n : Chan) (d : Tcd)
  | attr (n : Chan) (w : AttrWord)
  | nbytesPlain (n : Chan) (count : BitVec 30)
  | nbytesOff (n : Chan) (smloe dmloe : Bool) (mloff : BitVec 20) (count : BitVec 10)
  | iterPlain (n : Chan) (f : IterField) (count : BitVec 15)
  | iterLink (n : Chan) (f : IterField) (rsvd : Bool) (linkCh : Chan) (count : BitVec 9)
  | csr (n : Chan) (w : CsrWord)
  | dlast (n : Chan) (adjustment : Word)
  | sga (n : Chan) (link : BitVec 27)
deriving DecidableEq, Repr

end Sys2Proof
end

