-- ==== Sys2Proof/Machine/State.lean ====
section
/-! DEFINITION. The state of the DMA block (R20 to R34, R60 to R63, R70), the memory it shares with the host
(R80), the inputs and outputs of R63 and R64 and R83, and the model's own bookkeeping. Plain data. -/

namespace Sys2Proof.Machine

/-- The fields of `CR` (R21); the reserved bits hold nothing and read 0. -/
structure Cr where
  cx      : Bool
  ecx     : Bool
  grp1pri : Bool
  grp0pri : Bool
deriving DecidableEq, Repr

/-- The stored fields of `DCHPRI[n]` (R29); `GRPPRI` is not stored, it reads from `CR`. -/
structure ChPri where
  ecp   : Bool
  dpa   : Bool
  chpri : BitVec 4
deriving DecidableEq, Repr

/-- The fields of `CHCFG[n]` (R33); the reserved bits hold nothing and read 0. -/
structure ChCfg where
  enbl   : Bool
  trig   : Bool
  aOn    : Bool
  source : BitVec 7
deriving DecidableEq, Repr

/-- How far the data mover is inside an access that takes several bus accesses (R85, R86, R87, R172): the
parts already done, between two of which another agent may act. The model's own field of a context. -/
inductive Part where
  /-- Between accesses. -/
  | idle
  /-- The bytes of the present source element that have been read. -/
  | reading (got : List Byte)
  /-- How many bytes of the present destination element have been written. -/
  | writing (done : Nat)
  /-- The bytes of the next descriptor that have been read. -/
  | loading (got : List Byte)
  /-- A next-descriptor read was refused by the bus. -/
  | loadFailed
deriving DecidableEq, Repr

/-- An executing or suspended context (R60), with the model's `part`. -/
structure Ctx where
  ch   : Chan
  rem  : Word
  sa   : Addr
  da   : Addr
  fifo : List Byte
  wr   : Bool
  part : Part
deriving DecidableEq, Repr

/-- Sizes of one bus access or host access, in bytes (R83, R230). -/
inductive Width where
  | one | two | four
deriving DecidableEq, Repr

/-- The answers of `BusResp` that the platform chooses (R83); the fourth, `self`, is not chosen: it is
given exactly to the addresses of the block's own surfaces (R83, R89). -/
inductive Answer where
  | memory
  | device
  | error
deriving DecidableEq, Repr

/-- One entry of the platform's bus map: the answer for the addresses `lo` to `hi`, for one access size and
direction or for all. -/
structure Region where
  lo     : Addr
  hi     : Addr
  width  : Option Width
  dir    : Option Dir
  answer : Answer
deriving DecidableEq, Repr

/-- The OPEN parameters of R5 that the block's behaviour depends on: `DMA_BASE` (a multiple of 0x2000, so its
upper 19 bits), `MUX_BASE` (a multiple of 0x80, so its upper 25 bits) and `BusResp`, as the list of
regions whose first match answers, and the answer elsewhere. Every map is such a list. No step changes it. -/
structure Platform where
  dmaPage : BitVec 19
  muxPage : BitVec 25
  regions : List Region
  other   : Answer
deriving DecidableEq, Repr

/-- What the host's last access returned (R230, R232): the block's answer on the host's side of the bus. -/
inductive Reply where
  /-- No access has been made. -/
  | nothing
  /-- A store was taken. -/
  | ack
  /-- A load returned this value, widened with zeros. -/
  | value (v : Word)
  /-- The access got a bus error (R232). -/
  | busError
deriving DecidableEq, Repr

/-- One bus access of the data mover (R85 to R88): its direction, address, size, the bytes read or handed over,
and whether the bus took it. -/
structure BusEvent where
  dir   : Dir
  addr  : Addr
  width : Width
  bytes : List Byte
  taken : Bool
deriving DecidableEq, Repr

/-- One step of an agent other than the data mover's own free running, or a turn of the data mover at a
chosen place (R6, R63, R95). -/
inductive Event where
  /-- A host operation of the opcode table: the bytes of a word of that format. -/
  | host (f : Format) (bytes : List Byte)
  /-- A host load or store of 1, 2 or 4 bytes at an address of the address space (R80, R95). -/
  | bus (addr : Addr) (width : Width) (dir : Dir) (v : Word)
  /-- The data mover takes its enabled step (R145). -/
  | mover
  /-- A request line takes a level (R63). -/
  | line (slot : BitVec 7) (level : Bool)
  /-- A pulse on a trigger input (R63). -/
  | pulse (n : BitVec 2)
  /-- The reset input takes a level (R320). -/
  | reset (level : Bool)
deriving DecidableEq, Repr

/-- The memory of the address space: the bytes that are not 0, by rising address. -/
abbrev Memory := List Host.Cell

/-- The machine. -/
structure State where
  -- registers of the engine (R20 to R29)
  /-- Control register. -/
  cr : Cr
  /-- `ES[16:0]`, the stored bits of the error status register; `VLD` is not stored (R290). -/
  es : BitVec 17
  /-- Enable request. -/
  erq : Word
  /-- Enable error interrupt. -/
  eei : Word
  /-- Interrupt request latches. -/
  int : Word
  /-- Error latches. -/
  err : Word
  /-- Channel priorities. -/
  dchpri : Vector ChPri 32
  /-- Descriptor slots (R30, R31). -/
  tcd : Vector Tcd 32
  -- registers of the router (R33)
  /-- Router registers. -/
  chcfg : Vector ChCfg 32
  -- state no register shows (R60 to R62)
  /-- Chain in progress, bit `n` for channel `n`. -/
  inprog : Word
  /-- Trigger latches of channels 0 to 3. -/
  trg : BitVec 4
  /-- The executing context. -/
  cur : Option Ctx
  /-- The suspended context. -/
  susp : Option Ctx
  -- memory shared with the host (R80)
  /-- Memory. -/
  mem : Memory
  -- inputs (R63)
  /-- Levels of the request lines; bit 0 stands for no line. -/
  srcline : BitVec 128
  /-- The reset input is asserted (R320). -/
  inReset : Bool
  -- outputs
  /-- What the host's last access returned. -/
  hostReply : Reply
  /-- The bus accesses of the data mover so far, the latest first. -/
  trace : List BusEvent
  -- the model's own
  /-- How many free values the run has drawn. -/
  draws : Nat
  /-- The parameters of the platform. -/
  platform : Platform
  /-- The steps to come: which agent acts, and with what; the data mover runs on when it is empty. -/
  agenda : List Event
deriving DecidableEq, Repr

/-- Why the machine stops with a fault: never. Error capture is a normal step (R9, R288), an access that selects
no register is a bus error to the host (R232), and no other situation of the spec stops the block. -/
inductive Fault where
deriving DecidableEq, Repr

/-- Why a run is refused: the spec gives the situation no meaning (R9). -/
inductive Refusal where
  /-- Raised by an arm of `exec` for an operation that has no meaning yet. Safe. -/
  | notModelled (mnemonic : String)
  /-- Raised by a host write to any field of the slot of an executing channel (R241, R331, I10). Safe. -/
  | slotBusy (n : Chan)
  /-- Raised by a data-mover access whose address lies in the block's own surfaces (R89, I11). Safe. -/
  | selfAccess (a : Addr)
  /-- Raised by a host access to the block while the reset input is asserted: no rule of the block applies
  then (R320). Safe. -/
  | heldInReset
deriving DecidableEq, Repr

/-- The error kinds of the channel error (R280). -/
inductive ErrKind where
  | dbe | sbe | sge | nce | doe | dae | soe | sae | cpe | gpe | ecx
deriving DecidableEq, Repr

/-- The answer of the bus to one access (R83). -/
inductive BusAnswer where
  | memory
  | device
  | error
  | self
deriving DecidableEq, Repr

/-- What one bus access of the data mover comes to: done (with the bytes read), refused by the bus, or an
access to the block itself. -/
inductive BusResult where
  | done (bytes : List Byte) (s : State)
  | error (s : State)
  | self

/-- The states of a channel (R220). -/
inductive ChState where
  | free | bound | enabled | triggered | running | done | faulted
deriving DecidableEq, Repr

/-- What polling a channel finds (R261). -/
inductive PollStatus where
  | pending
  | complete
  /-- The channel's error latch is set; `es[16:0]` is the record when it is this channel's. -/
  | error (kinds : Option (BitVec 17))
deriving DecidableEq, Repr

/-- The outcome of an operation of the model. -/
abbrev Out := Host.Outcome State Fault Refusal

/-- `CR` after reset, 0x0000_0400 (R70). -/
def Cr.atReset : Cr := { cx := false, ecx := false, grp1pri := true, grp0pri := false }

/-- `DCHPRI[n]` after reset: `CHPRI = n mod 16` (R70). -/
def ChPri.atReset (n : Nat) : ChPri := { ecp := false, dpa := false, chpri := BitVec.ofNat 4 n }

/-- `CHCFG[n]` after reset, 0 (R70). -/
def ChCfg.atReset : ChCfg := { enbl := false, trig := false, aOn := false, source := 0 }

/-- A descriptor slot in `State.reset`: `CSR` is 0 (R70); the spec gives the other ten fields no value, and
the model names 0 for each. DESIGN CHOICE, unsafe: assumption 1. -/
def slotAtReset : Tcd where
  saddr := 0
  soff := 0
  attr := 0
  nbytes := 0
  slast := 0
  daddr := 0
  doff := 0
  citer := 0
  dlastSga := 0
  csr := 0
  biter := 0

/-- The platform named for `State.reset`: two bases and a bus that answers `memory` everywhere else.
DESIGN CHOICE: assumption 2. -/
def Platform.atReset : Platform where
  dmaPage := Config.resetDmaPage
  muxPage := Config.resetMuxPage
  regions := []
  other := .memory

/-- The machine right after reset (R70): no operation waits, no input is asserted and memory lists nothing. -/
def State.reset : State where
  cr := .atReset
  es := 0
  erq := 0
  eei := 0
  int := 0
  err := 0
  dchpri := Vector.ofFn fun i => .atReset i.val
  tcd := Vector.replicate 32 slotAtReset
  chcfg := Vector.replicate 32 .atReset
  inprog := 0
  trg := 0
  cur := none
  susp := none
  mem := []
  srcline := 0
  inReset := false
  hostReply := .nothing
  trace := []
  draws := 0
  platform := .atReset
  agenda := []

end Sys2Proof.Machine
end

