-- ==== Sys2Proof/Machine/Memory.lean ====
section
/-! DEFINITION. The bytes of the address space (R80): reading and writing one byte and a run of bytes, in the
one canonical form of the list of cells. -/

namespace Sys2Proof.Machine

/-- What an address that no entry lists reads as. DESIGN CHOICE, unsafe: the convention of the test vectors
("memory not mentioned holds 0x00"), assumption 3. -/
def unlistedByte : Byte := 0

/-- The byte stored at an address. -/
def Memory.readByte : Memory → Nat → Byte
  | [], _ => unlistedByte
  | (k, v) :: rest, a => if a = k then v else Memory.readByte rest a

/-- An entry for a byte, or none when it is what an unlisted address reads as. -/
def Memory.entry (a : Nat) (b : Byte) : Memory := if b = unlistedByte then [] else [(a, b)]

/-- Store one byte, keeping the canonical form. -/
def Memory.writeByte : Memory → Nat → Byte → Memory
  | [], a, b => Memory.entry a b
  | (k, v) :: rest, a, b =>
    if a < k then Memory.entry a b ++ (k, v) :: rest
    else if a = k then Memory.entry a b ++ rest
    else (k, v) :: Memory.writeByte rest a b

/-- The `n` bytes stored from an address upwards, modulo 2^32 (R7, R86). -/
def Memory.read (m : Memory) (a : Addr) : Nat → List Byte
  | 0 => []
  | n + 1 => m.readByte a.toNat :: Memory.read m (a + 1) n

/-- Store a byte string from an address upwards, modulo 2^32 (R7, R87). -/
def Memory.write (m : Memory) (a : Addr) : List Byte → Memory
  | [] => m
  | b :: bs => Memory.write (m.writeByte a.toNat b) (a + 1) bs

/-- The keys of a memory strictly rise from a bound on, lie in the address space, and no entry holds what an
unlisted address reads as. -/
def Memory.wfFrom : Nat → Memory → Bool
  | _, [] => true
  | lo, (k, v) :: rest => decide (lo ≤ k) && decide (k < 2 ^ 32) && (v != unlistedByte) && Memory.wfFrom (k + 1) rest

/-- The canonical form of a memory. -/
def Memory.wf (m : Memory) : Bool := Memory.wfFrom 0 m

end Sys2Proof.Machine
end

