-- ==== Sys2Proof/WellFormed.lean ====
section
/-! DEFINITION. Which terms of `Instr` stand for a word of their row's format. -/

namespace Sys2Proof

/-- The one check the types do not make: the form `NBYTES.OFF` is the word with at least one of the two
offset enables set (R112, "SMLOE = 1 or DMLOE = 1"); with neither, the word is of the form
`NBYTES.PLAIN`. -/
def WellFormed : Instr → Bool
  | .nbytesOff _ smloe dmloe _ _ => smloe || dmloe
  | _ => true

end Sys2Proof
end

