-- ==== Sys2Proof/Decode.lean ====
section
/-! DEFINITION. The decoder of R120 to R122 and R110 to R115, total on any bytes and rejecting by name; the
encoder, written from the same tables; and the byte-order helpers of R8 and R81.

The bytes of an operation are its table word, lowest byte first (R81), followed by the operands the table
gives no bits (assumption 8): an access control byte and the value of a register access, the channel of a
descriptor word. -/

namespace Sys2Proof

/-! ### Byte order (R8, R81) -/

/-- `le16(b)`: the first two bytes of a byte string, little-endian. -/
def le16 (b : List Byte) : Half := b.getD 1 0 ++ b.getD 0 0

/-- `le32(b)`: the first four bytes of a byte string, little-endian. -/
def le32 (b : List Byte) : Word := b.getD 3 0 ++ b.getD 2 0 ++ b.getD 1 0 ++ b.getD 0 0

/-- The two bytes of a 16-bit value, least significant first. -/
def bytes16 (v : Half) : List Byte := [v.extractLsb' 0 8, v.extractLsb' 8 8]

/-- The four bytes of a 32-bit value, least significant first. -/
def bytes32 (v : Word) : List Byte :=
  [v.extractLsb' 0 8, v.extractLsb' 8 8, v.extractLsb' 16 8, v.extractLsb' 24 8]

/-! ### Descriptor images (R110) -/

/-- The fields of the 32 bytes of a descriptor image, at the byte offsets of R110. -/
def tcdOfBytes (b : List Byte) : Tcd where
  saddr    := le32 b
  soff     := le16 (b.drop 0x04)
  attr     := le16 (b.drop 0x06)
  nbytes   := le32 (b.drop 0x08)
  slast    := le32 (b.drop 0x0C)
  daddr    := le32 (b.drop 0x10)
  doff     := le16 (b.drop 0x14)
  citer    := le16 (b.drop 0x16)
  dlastSga := le32 (b.drop 0x18)
  csr      := le16 (b.drop 0x1C)
  biter    := le16 (b.drop 0x1E)

/-- The 32 bytes of a descriptor image (R110). -/
def bytesOfTcd (d : Tcd) : List Byte :=
  bytes32 d.saddr ++ bytes16 d.soff ++ bytes16 d.attr ++ bytes32 d.nbytes ++ bytes32 d.slast ++
  bytes32 d.daddr ++ bytes16 d.doff ++ bytes16 d.citer ++ bytes32 d.dlastSga ++ bytes16 d.csr ++
  bytes16 d.biter

/-! ### The words of a descriptor's fields (R111 to R115) -/

/-- The fields of an `ATTR` word (R111). -/
def attrOfWord (v : Half) : AttrWord where
  smod  := v.extractLsb' 11 5
  ssize := v.extractLsb' 8 3
  dmod  := v.extractLsb' 3 5
  dsize := v.extractLsb' 0 3

/-- The `ATTR` word of its fields (R111). -/
def wordOfAttr (w : AttrWord) : Half := w.smod ++ w.ssize ++ w.dmod ++ w.dsize

/-- The fields of a `CSR` word (R114). -/
def csrOfWord (v : Half) : CsrWord where
  bwc         := v.extractLsb' 14 2
  rsvd        := v.getLsbD 13
  majorLinkCh := v.extractLsb' 8 5
  done        := v.getLsbD 7
  active      := v.getLsbD 6
  majorElink  := v.getLsbD 5
  esg         := v.getLsbD 4
  dreq        := v.getLsbD 3
  intHalf     := v.getLsbD 2
  intMajor    := v.getLsbD 1
  start       := v.getLsbD 0

/-- The `CSR` word of its fields (R114). -/
def wordOfCsr (w : CsrWord) : Half :=
  w.bwc ++ BitVec.ofBool w.rsvd ++ w.majorLinkCh ++ BitVec.ofBool w.done ++ BitVec.ofBool w.active ++
  BitVec.ofBool w.majorElink ++ BitVec.ofBool w.esg ++ BitVec.ofBool w.dreq ++ BitVec.ofBool w.intHalf ++
  BitVec.ofBool w.intMajor ++ BitVec.ofBool w.start

/-- The `NBYTES` word of the plain form (R112). -/
def wordOfNbytesPlain (count : BitVec 30) : Word := 0#2 ++ count

/-- The `NBYTES` word of the form with a minor-loop offset (R112). -/
def wordOfNbytesOff (smloe dmloe : Bool) (mloff : BitVec 20) (count : BitVec 10) : Word :=
  BitVec.ofBool smloe ++ BitVec.ofBool dmloe ++ mloff ++ count

/-- The `CITER` or `BITER` word of the plain form (R113). -/
def wordOfIterPlain (count : BitVec 15) : Half := 0#1 ++ count

/-- The `CITER` or `BITER` word of the form with a channel link; bit 14 is kept as written (R113). -/
def wordOfIterLink (rsvd : Bool) (linkCh : Chan) (count : BitVec 9) : Half :=
  1#1 ++ BitVec.ofBool rsvd ++ linkCh ++ count

/-- The `DLAST_SGA` word that names a next descriptor, a multiple of 32 (R115). -/
def wordOfSga (link : BitVec 27) : Word := link ++ 0#5

/-! ### The decoder -/

/-- R120: with `NOP = 1` no operation, else with `ALL = 1` every channel, else the channel `CH`; bit 5 is
ignored. -/
def commandForm (b : Byte) (one : Chan → Instr) (all nop : Instr) : Instr :=
  if b.getLsbD 7 then nop else if b.getLsbD 6 then all else one (b.extractLsb' 0 5)

/-- R120: the command at offset `0x18 + k` with the byte `b`. -/
def decodeCommand (k : BitVec 3) (b : Byte) : Instr :=
  if k = 0 then commandForm b .ceei .ceeiAll .ceeiNop
  else if k = 1 then commandForm b .seei .seeiAll .seeiNop
  else if k = 2 then commandForm b .cerq .cerqAll .cerqNop
  else if k = 3 then commandForm b .serq .serqAll .serqNop
  else if k = 4 then commandForm b .cdne .cdneAll .cdneNop
  else if k = 5 then commandForm b .ssrt .ssrtAll .ssrtNop
  else if k = 6 then commandForm b .cerr .cerrAll .cerrNop
  else commandForm b .cint .cintAll .cintNop

/-- The slot field at a byte offset inside a slot (R31, R121). -/
def slotFieldAt (f : BitVec 5) : Option SlotField :=
  if f = 0x00 then some .saddr
  else if f = 0x04 then some .soff
  else if f = 0x06 then some .attr
  else if f = 0x08 then some .nbytes
  else if f = 0x0C then some .slast
  else if f = 0x10 then some .daddr
  else if f = 0x14 then some .doff
  else if f = 0x16 then some .citer
  else if f = 0x18 then some .dlastSga
  else if f = 0x1C then some .csr
  else if f = 0x1E then some .biter
  else none

/-- The byte offset of a field inside a slot (R31). -/
def slotFieldOffset : SlotField → BitVec 5
  | .saddr => 0x00 | .soff => 0x04 | .attr => 0x06 | .nbytes => 0x08 | .slast => 0x0C
  | .daddr => 0x10 | .doff => 0x14 | .citer => 0x16 | .dlastSga => 0x18 | .csr => 0x1C | .biter => 0x1E

/-- The width in bytes of a slot field (R31). -/
def slotFieldWidth : SlotField → Nat
  | .saddr | .nbytes | .slast | .daddr | .dlastSga => 4
  | .soff | .attr | .doff | .citer | .csr | .biter => 2

/-- R121: the register that a byte offset of `ENG` selects. -/
def engSelect (off : Half) : Option EngReg :=
  if off = 0x0000 then some .cr
  else if off = 0x0004 then some .es
  else if off = 0x000C then some .erq
  else if off = 0x0014 then some .eei
  else if off = 0x0024 then some .int
  else if off = 0x002C then some .err
  else if off = 0x0034 then some .hrs
  else if off &&& 0xFFF8 = 0x0018 then some (.command (off.extractLsb' 0 3))
  else if off &&& 0xFFE0 = 0x0100 then some (.dchpri (off.extractLsb' 0 5 ^^^ 3))
  else if off &&& 0xFC00 = 0x1000 then
    (slotFieldAt (off.extractLsb' 0 5)).map (.slot (off.extractLsb' 5 5))
  else none

/-- The byte offset of an engine register (R20, R29, R30). -/
def engOffset : EngReg → Half
  | .cr => 0x0000 | .es => 0x0004 | .erq => 0x000C | .eei => 0x0014
  | .int => 0x0024 | .err => 0x002C | .hrs => 0x0034
  | .command k => 0x0018 + k.setWidth 16
  | .dchpri n => 0x0100 + (n ^^^ 3).setWidth 16
  | .slot n f => 0x1000 + n.setWidth 16 * 0x20 + (slotFieldOffset f).setWidth 16

/-- The width in bytes of an engine register (R20, R231). -/
def engWidth : EngReg → Nat
  | .command _ | .dchpri _ => 1
  | .slot _ f => slotFieldWidth f
  | _ => 4

/-- The access made: a store of the low `w` bits of the value when the direction bit is 1, else a load. -/
def accessOf (w : Nat) (wr : Bool) (v : Word) : Access w :=
  if wr then .write (v.setWidth w) else .read

/-- The operation on one slot field (R241, R242). -/
def decodeSlotAccess (n : Chan) (wr : Bool) (v : Word) : SlotField → Instr
  | .saddr => .tcdSaddr n (accessOf 32 wr v)
  | .soff => .tcdSoff n (accessOf 16 wr v)
  | .attr => .tcdAttr n (accessOf 16 wr v)
  | .nbytes => .tcdNbytes n (accessOf 32 wr v)
  | .slast => .tcdSlast n (accessOf 32 wr v)
  | .daddr => .tcdDaddr n (accessOf 32 wr v)
  | .doff => .tcdDoff n (accessOf 16 wr v)
  | .citer => .tcdCiter n (accessOf 16 wr v)
  | .dlastSga => .tcdDlastSga n (accessOf 32 wr v)
  | .csr => .tcdCsr n (accessOf 16 wr v)
  | .biter => .tcdBiter n (accessOf 16 wr v)

/-- The operation on one engine register; a read of a command register is no operation of the table: it
returns 0 (R25, R232). -/
def decodeEngAccess (wr : Bool) (v : Word) : EngReg → Except DecodeError Instr
  | .cr => .ok (.cr (accessOf 32 wr v))
  | .es => .ok (.es (accessOf 32 wr v))
  | .erq => .ok (.erq (accessOf 32 wr v))
  | .eei => .ok (.eei (accessOf 32 wr v))
  | .int => .ok (.int (accessOf 32 wr v))
  | .err => .ok (.err (accessOf 32 wr v))
  | .hrs => .ok (.hrs (accessOf 32 wr v))
  | .command k => if wr then .ok (decodeCommand k (v.setWidth 8)) else .error .writeOnlyRead
  | .dchpri n => .ok (.dchpri n (accessOf 8 wr v))
  | .slot n f => .ok (decodeSlotAccess n wr v f)

/-- Bits 2:1 of the access control byte: 0 is the register's own width, 1, 2, 3 are 1, 2, 4 bytes
(assumption 8). -/
def widthAgrees (ctl : Byte) (own : Nat) : Bool :=
  let code := ctl.extractLsb' 1 2
  code == 0 || (code == 1 && own == 1) || (code == 2 && own == 2) || (code == 3 && own == 4)

/-- R121, R231: an access to `ENG` at an offset; bit 0 of the control byte is 1 for a store. -/
def decodeEng16 (off : Half) (ctl : Byte) (v : Word) : Except DecodeError Instr :=
  match engSelect off with
  | some r =>
    if widthAgrees ctl (engWidth r) then decodeEngAccess (ctl.getLsbD 0) v r else .error .unmapped
  | none => if off &&& 0xE000 = 0 then .error .unmapped else .error .outsideSurface

/-- R122: an access to `MUX` at an offset. -/
def decodeMux8 (off ctl : Byte) (v : Word) : Except DecodeError Instr :=
  if off &&& 0x80 ≠ 0 then .error .outsideSurface
  else if off &&& 0x03 = 0 ∧ widthAgrees ctl 4 then
    .ok (.chcfg (off.extractLsb' 2 5) (accessOf 32 (ctl.getLsbD 0) v))
  else .error .unmapped

/-- R112: the two forms of an `NBYTES` word. -/
def decodeNbytes (n : Chan) (v : Word) : Instr :=
  if v.getLsbD 31 || v.getLsbD 30 then
    .nbytesOff n (v.getLsbD 31) (v.getLsbD 30) (v.extractLsb' 10 20) (v.extractLsb' 0 10)
  else .nbytesPlain n (v.extractLsb' 0 30)

/-- R113: the two forms of a `CITER` or `BITER` word. -/
def decodeIter (n : Chan) (f : IterField) (v : Half) : Instr :=
  if v.getLsbD 15 then .iterLink n f (v.getLsbD 14) (v.extractLsb' 9 5) (v.extractLsb' 0 9)
  else .iterPlain n f (v.extractLsb' 0 15)

/-- R115: the two meanings of a `DLAST_SGA` word, selected by the `ESG` of the descriptor it belongs to. A link
word whose low five bits are not 0 is of neither form: it is the plain write of the field, which holds what was
written and is caught as `SGE` at activation (R34, R124). -/
def decodeDlastSga (n : Chan) (esg : Bool) (v : Word) : Instr :=
  if esg then
    if v &&& 0x1F = 0 then .sga n (v.extractLsb' 5 27) else .tcdDlastSga n (.write v)
  else .dlast n v

/-- The decoder: the operation that the bytes of a format stand for. -/
def decode (f : Format) (bytes : List Byte) : Except DecodeError Instr :=
  match f, bytes with
  | .cmd8, [b, off] =>
    if off &&& 0xF8 = 0x18 then .ok (decodeCommand (off.extractLsb' 0 3) b) else .error .notACommand
  | .eng16, [o0, o1, ctl, v0, v1, v2, v3] => decodeEng16 (o1 ++ o0) ctl (v3 ++ v2 ++ v1 ++ v0)
  | .mux8, [off, ctl, v0, v1, v2, v3] => decodeMux8 off ctl (v3 ++ v2 ++ v1 ++ v0)
  | .attr, [v0, v1, p] => .ok (.attr (p.extractLsb' 0 5) (attrOfWord (v1 ++ v0)))
  | .nbytes, [v0, v1, v2, v3, p] => .ok (decodeNbytes (p.extractLsb' 0 5) (v3 ++ v2 ++ v1 ++ v0))
  | .iter, [v0, v1, p] =>
    .ok (decodeIter (p.extractLsb' 0 5) (if p.getLsbD 7 then .biter else .citer) (v1 ++ v0))
  | .csr, [v0, v1, p] => .ok (.csr (p.extractLsb' 0 5) (csrOfWord (v1 ++ v0)))
  | .dlastSga, [v0, v1, v2, v3, p] =>
    .ok (decodeDlastSga (p.extractLsb' 0 5) (p.getLsbD 7) (v3 ++ v2 ++ v1 ++ v0))
  | .tcd256, _ =>
    if bytes.length = 33 then .ok (.tcd ((bytes.getD 32 0).extractLsb' 0 5) (tcdOfBytes bytes))
    else .error .length
  | _, _ => .error .length

/-! ### The encoder -/

/-- The two bytes of a `CMD8` word `off, b` (R128): the command byte is the low one. -/
def encodeCommand (k : BitVec 3) (b : Byte) : Format × List Byte := (.cmd8, [b, 0x18 + k.setWidth 8])

/-- The command byte of the single-channel form (R120). -/
def oneByte (ch : Chan) : Byte := ch.setWidth 8

/-- The operand bytes of a register access: the control byte, then the value (assumption 8). -/
def accessBytes {w : Nat} : Access w → List Byte
  | .read => [0, 0, 0, 0, 0]
  | .write v => 1 :: bytes32 (v.setWidth 32)

/-- The bytes of an access to an engine register. -/
def encodeEng {w : Nat} (r : EngReg) (a : Access w) : Format × List Byte :=
  (.eng16, bytes16 (engOffset r) ++ accessBytes a)

/-- The operand byte that names the slot of a descriptor word, with the form's selector in bit 7. -/
def slotByte (n : Chan) (sel : Bool) : Byte := BitVec.ofBool sel ++ 0#2 ++ n

/-- The selector of an iteration-count word. -/
def iterSel : IterField → Bool
  | .citer => false
  | .biter => true

/-- The encoder: format and bytes of an operation, from the tables of R110 to R122. -/
def encode : Instr → Format × List Byte
  | .ceei ch => encodeCommand 0 (oneByte ch)
  | .ceeiAll => encodeCommand 0 0x40
  | .ceeiNop => encodeCommand 0 0x80
  | .seei ch => encodeCommand 1 (oneByte ch)
  | .seeiAll => encodeCommand 1 0x40
  | .seeiNop => encodeCommand 1 0x80
  | .cerq ch => encodeCommand 2 (oneByte ch)
  | .cerqAll => encodeCommand 2 0x40
  | .cerqNop => encodeCommand 2 0x80
  | .serq ch => encodeCommand 3 (oneByte ch)
  | .serqAll => encodeCommand 3 0x40
  | .serqNop => encodeCommand 3 0x80
  | .cdne ch => encodeCommand 4 (oneByte ch)
  | .cdneAll => encodeCommand 4 0x40
  | .cdneNop => encodeCommand 4 0x80
  | .ssrt ch => encodeCommand 5 (oneByte ch)
  | .ssrtAll => encodeCommand 5 0x40
  | .ssrtNop => encodeCommand 5 0x80
  | .cerr ch => encodeCommand 6 (oneByte ch)
  | .cerrAll => encodeCommand 6 0x40
  | .cerrNop => encodeCommand 6 0x80
  | .cint ch => encodeCommand 7 (oneByte ch)
  | .cintAll => encodeCommand 7 0x40
  | .cintNop => encodeCommand 7 0x80
  | .cr a => encodeEng .cr a
  | .es a => encodeEng .es a
  | .erq a => encodeEng .erq a
  | .eei a => encodeEng .eei a
  | .int a => encodeEng .int a
  | .err a => encodeEng .err a
  | .hrs a => encodeEng .hrs a
  | .dchpri n a => encodeEng (.dchpri n) a
  | .tcdSaddr n a => encodeEng (.slot n .saddr) a
  | .tcdSoff n a => encodeEng (.slot n .soff) a
  | .tcdAttr n a => encodeEng (.slot n .attr) a
  | .tcdNbytes n a => encodeEng (.slot n .nbytes) a
  | .tcdSlast n a => encodeEng (.slot n .slast) a
  | .tcdDaddr n a => encodeEng (.slot n .daddr) a
  | .tcdDoff n a => encodeEng (.slot n .doff) a
  | .tcdCiter n a => encodeEng (.slot n .citer) a
  | .tcdDlastSga n a => encodeEng (.slot n .dlastSga) a
  | .tcdCsr n a => encodeEng (.slot n .csr) a
  | .tcdBiter n a => encodeEng (.slot n .biter) a
  | .chcfg n a => (.mux8, (n.setWidth 8 <<< 2) :: accessBytes a)
  | .tcd n d => (.tcd256, bytesOfTcd d ++ [slotByte n false])
  | .attr n w => (.attr, bytes16 (wordOfAttr w) ++ [slotByte n false])
  | .nbytesPlain n count => (.nbytes, bytes32 (wordOfNbytesPlain count) ++ [slotByte n false])
  | .nbytesOff n smloe dmloe mloff count =>
    (.nbytes, bytes32 (wordOfNbytesOff smloe dmloe mloff count) ++ [slotByte n false])
  | .iterPlain n f count => (.iter, bytes16 (wordOfIterPlain count) ++ [slotByte n (iterSel f)])
  | .iterLink n f rsvd linkCh count =>
    (.iter, bytes16 (wordOfIterLink rsvd linkCh count) ++ [slotByte n (iterSel f)])
  | .csr n w => (.csr, bytes16 (wordOfCsr w) ++ [slotByte n false])
  | .dlast n v => (.dlastSga, bytes32 v ++ [slotByte n false])
  | .sga n link => (.dlastSga, bytes32 (wordOfSga link) ++ [slotByte n true])

/-! ### Words of the opcode table without their format (assumption 9) -/

/-- How many bytes an operation of a format has: its table word and its operands. -/
def formatLength : Format → Nat
  | .cmd8 => 2 | .eng16 => 7 | .mux8 => 6 | .tcd256 => 33
  | .attr => 3 | .nbytes => 5 | .iter => 3 | .csr => 3 | .dlastSga => 5

/-- The format in which a bare table word of `nbits` bits is read: the words of the formats overlap, and a
word is given to the first of `MUX8`; `CMD8`, `ENG16`, `CITER/BITER`; `NBYTES`; `TCD256` of its width
that it can belong to (assumption 9). -/
def tableFormat (nbits w : Nat) : Format :=
  if nbits ≤ 8 then .mux8
  else if nbits ≤ 16 then
    if BitVec.ofNat 16 w &&& 0xF800 = 0x1800 then .cmd8
    else if (engSelect (BitVec.ofNat 16 w)).isSome then .eng16
    else .iter
  else if nbits ≤ 32 then .nbytes
  else .tcd256

/-- The lowest `k` bytes of a number, least significant first. -/
def bytesOfNat : Nat → Nat → List Byte
  | 0, _ => []
  | k + 1, w => BitVec.ofNat 8 w :: bytesOfNat k (w / 256)

/-- The bytes of an operation whose table word is `w`: the word, and zeros for every bit above it. -/
def tableBytes (nbits w : Nat) : List Byte := bytesOfNat (formatLength (tableFormat nbits w)) (w % 2 ^ nbits)

/-- The operation the decoder reads from a bare table word of `nbits` bits. -/
def decodeTableWord (nbits w : Nat) : Option Instr :=
  match decode (tableFormat nbits w) (tableBytes nbits w) with
  | .ok i => some i
  | .error _ => none

end Sys2Proof
end

