-- ==== Sys2Proof/Machine/Operands.lean ====
section
/-! DEFINITION. The operands of a descriptor, decoded from the fields of a slot: R111 to R119. -/

namespace Sys2Proof.Machine

/-- A bit vector with bit `i` replaced. -/
def putBit {w : Nat} (v : BitVec w) (i : Nat) (b : Bool) : BitVec w :=
  if b then v ||| BitVec.twoPow w i else v &&& ~~~(BitVec.twoPow w i)

/-! ### `CSR` (R114) -/

/-- `CSR.START`. -/
def csrStart (t : Tcd) : Bool := t.csr.getLsbD 0
/-- `CSR.INTMAJOR`. -/
def csrIntMajor (t : Tcd) : Bool := t.csr.getLsbD 1
/-- `CSR.INTHALF`. -/
def csrIntHalf (t : Tcd) : Bool := t.csr.getLsbD 2
/-- `CSR.DREQ`. -/
def csrDreq (t : Tcd) : Bool := t.csr.getLsbD 3
/-- `CSR.ESG`. -/
def csrEsg (t : Tcd) : Bool := t.csr.getLsbD 4
/-- `CSR.MAJORELINK`. -/
def csrMajorElink (t : Tcd) : Bool := t.csr.getLsbD 5
/-- `CSR.ACTIVE`. -/
def csrActive (t : Tcd) : Bool := t.csr.getLsbD 6
/-- `CSR.DONE`. -/
def csrDone (t : Tcd) : Bool := t.csr.getLsbD 7
/-- `CSR.MAJORLINKCH`. -/
def csrMajorLinkCh (t : Tcd) : Chan := t.csr.extractLsb' 8 5

/-- `CSR.START <- b`. -/
def setStart (t : Tcd) (b : Bool) : Tcd := { t with csr := putBit t.csr 0 b }
/-- `CSR.ACTIVE <- b`. -/
def setActive (t : Tcd) (b : Bool) : Tcd := { t with csr := putBit t.csr 6 b }
/-- `CSR.DONE <- b`. -/
def setDone (t : Tcd) (b : Bool) : Tcd := { t with csr := putBit t.csr 7 b }

/-- What `CSR` holds after a host write of `v` (R241): bit 13 holds nothing and `ACTIVE` keeps its value. -/
def csrWritten (old v : Half) : Half := (v &&& 0xDFBF) ||| (old &&& 0x0040)

/-! ### `ATTR` (R111, R116) -/

/-- `SSIZE`, the source size code. -/
def ssizeCode (t : Tcd) : Nat := (attrOfWord t.attr).ssize.toNat
/-- `DSIZE`, the destination size code. -/
def dsizeCode (t : Tcd) : Nat := (attrOfWord t.attr).dsize.toNat
/-- `ssize`, the source element size in bytes (R116). -/
def ssize (t : Tcd) : Nat := 2 ^ ssizeCode t
/-- `dsize`, the destination element size in bytes (R116). -/
def dsize (t : Tcd) : Nat := 2 ^ dsizeCode t
/-- `SMOD`. -/
def smod (t : Tcd) : Nat := (attrOfWord t.attr).smod.toNat
/-- `DMOD`. -/
def dmod (t : Tcd) : Nat := (attrOfWord t.attr).dmod.toNat
/-- `B`, the bytes of one read/write sequence (R150). -/
def seqBytes (t : Tcd) : Nat := max (ssize t) (dsize t)

/-- `x` is a multiple of `2^k`: its low `k` bits are 0 (R180 (b)). -/
def multipleOf {w : Nat} (x : BitVec w) (k : Nat) : Bool := decide (x.toNat % 2 ^ k = 0)

/-! ### Offsets and addresses (R117, R118) -/

/-- `soff`, the source offset widened with its sign. -/
def soff (t : Tcd) : Word := t.soff.signExtend 32
/-- `doff`, the destination offset widened with its sign. -/
def doff (t : Tcd) : Word := t.doff.signExtend 32

/-- `mask(m)`. -/
def modMask (m : Nat) : Word := BitVec.ofNat 32 (2 ^ m - 1)

/-- `nextaddr(a, o, m)`: the low `m` bits move and the high bits stay; all bits move when `m = 0`. -/
def nextAddr (a : Addr) (o : Word) (m : Nat) : Addr :=
  if m = 0 then a + o else (a &&& ~~~(modMask m)) ||| ((a + o) &&& modMask m)

/-! ### `NBYTES` (R112) -/

/-- `smloe`. -/
def smloe (t : Tcd) : Bool := t.nbytes.getLsbD 31
/-- `dmloe`. -/
def dmloe (t : Tcd) : Bool := t.nbytes.getLsbD 30

/-- `nbytes`, the minor-loop byte count. -/
def nbytes (t : Tcd) : Word :=
  if smloe t || dmloe t then (t.nbytes.extractLsb' 0 10).setWidth 32 else (t.nbytes.extractLsb' 0 30).setWidth 32

/-- `mloff`, the minor-loop offset, 0 in the plain form. -/
def mloff (t : Tcd) : Word :=
  if smloe t || dmloe t then (t.nbytes.extractLsb' 10 20).signExtend 32 else 0

/-! ### `CITER` and `BITER` (R113) -/

/-- `ELINK` of an iteration-count word. -/
def elink (x : Half) : Bool := x.getLsbD 15
/-- `LINKCH` of an iteration-count word with `ELINK = 1`. -/
def linkCh (x : Half) : Chan := x.extractLsb' 9 5

/-- `count(X)`. -/
def count (x : Half) : Half :=
  if elink x then (x.extractLsb' 0 9).setWidth 16 else (x.extractLsb' 0 15).setWidth 16

/-- `setcount(X, c)`: the count field replaced, every other bit kept. -/
def setCount (x c : Half) : Half :=
  if elink x then (x &&& 0xFE00) ||| (c &&& 0x01FF) else (x &&& 0x8000) ||| (c &&& 0x7FFF)

end Sys2Proof.Machine
end

