-- ==== Sys2Proof/Machine/Ops.lean ====
section
/-! DEFINITION. The shared operations: channel numbers and selections, the per-channel registers, the host's
reply, the bus accesses of the data mover (R83, R86, R87), error capture, which is this block's taking of
an exception (R288), and acknowledgment, its return (R305). -/

namespace Sys2Proof.Machine

/-! ### Channels and selections -/

/-- All channel numbers, rising. -/
def channels : List Chan := (List.range 32).map (BitVec.ofNat 5)

/-- The selection of one channel as a mask of bits (R250). -/
def selOne (ch : Chan) : Word := BitVec.twoPow 32 ch.toNat

/-- The selection of all 32 channels (R250). -/
def selAll : Word := BitVec.allOnes 32

/-- `for n in Sel: r[n] <- 1`. -/
def setBits (r sel : Word) : Word := r ||| sel

/-- `for n in Sel: r[n] <- 0`. -/
def clearBits (r sel : Word) : Word := r &&& ~~~sel

/-! ### Per-channel registers -/

/-- `TCD[n]` (R30). -/
def State.slot (s : State) (n : Chan) : Tcd := s.tcd[n.toNat]'n.isLt

/-- `TCD[n] <- t`. -/
def State.setSlot (s : State) (n : Chan) (t : Tcd) : State := { s with tcd := s.tcd.set n.toNat t n.isLt }

/-- `TCD[n]` replaced by a function of what it holds. -/
def State.updSlot (s : State) (n : Chan) (f : Tcd → Tcd) : State := s.setSlot n (f (s.slot n))

/-- The slots of a selection replaced by a function of what they hold. -/
def State.overSlots (s : State) (sel : Word) (f : Tcd → Tcd) : State :=
  { s with tcd := s.tcd.mapIdx fun i t => if sel.getLsbD i then f t else t }

/-- `DCHPRI[n]` (R29). -/
def State.pri (s : State) (n : Chan) : ChPri := s.dchpri[n.toNat]'n.isLt

/-- `DCHPRI[n] <- p`. -/
def State.setPri (s : State) (n : Chan) (p : ChPri) : State :=
  { s with dchpri := s.dchpri.set n.toNat p n.isLt }

/-- `CHCFG[n]` (R33). -/
def State.cfg (s : State) (n : Chan) : ChCfg := s.chcfg[n.toNat]'n.isLt

/-- `CHCFG[n] <- c`. -/
def State.setCfg (s : State) (n : Chan) (c : ChCfg) : State :=
  { s with chcfg := s.chcfg.set n.toNat c n.isLt }

/-- `TRG[n] <- b` for a channel that has a trigger latch, 0 to 3 (R62). -/
def State.setTrg (s : State) (n : Chan) (b : Bool) : State :=
  if n.toNat < 4 then { s with trg := putBit s.trg n.toNat b } else s

/-! ### The host's side of an access -/

/-- The host's store is taken. -/
def State.ack (s : State) : State := { s with hostReply := .ack }

/-- The host's load returns a register's value, widened with zeros. -/
def State.returns {w : Nat} (s : State) (v : BitVec w) : State := { s with hostReply := .value (v.setWidth 32) }

/-- An access that selects no register: bus error to the host, no state change in the block (R232). -/
def State.hostBusError (s : State) : State := { s with hostReply := .busError }

/-- A host access to one field of a slot (R241, R242): a store is refused while the channel executes and
else replaces the field; a load returns it. -/
def slotAccess {w : Nat} (get : Tcd → BitVec w) (put : Tcd → BitVec w → Tcd) (n : Chan) (a : Access w) (s : State) :
    Out :=
  match a with
  | .read => .next (s.returns (get (s.slot n)))
  | .write v => if csrActive (s.slot n) then .refused (.slotBusy n) else .next (s.updSlot n (put · v)).ack

/-! ### The bus (R83 to R89) -/

/-- Number of bytes of an access. -/
def Width.bytes : Width → Nat
  | .one => 1
  | .two => 2
  | .four => 4

/-- `DMA_BASE` (R5). -/
def Platform.dmaBase (p : Platform) : Addr := p.dmaPage ++ 0#13

/-- `MUX_BASE` (R5). -/
def Platform.muxBase (p : Platform) : Addr := p.muxPage ++ 0#7

/-- The address lies in the 8 KiB window of `ENG` (R82). -/
def Platform.inEng (p : Platform) (a : Addr) : Bool := a.extractLsb' 13 19 == p.dmaPage

/-- The address lies in the 128 bytes of `MUX` (R82). -/
def Platform.inMux (p : Platform) (a : Addr) : Bool := a.extractLsb' 7 25 == p.muxPage

/-- The region answers for this access. -/
def Region.covers (r : Region) (a : Addr) (w : Width) (d : Dir) : Bool :=
  decide (r.lo ≤ a) && decide (a ≤ r.hi) && (r.width == none || r.width == some w) && (r.dir == none || r.dir == some d)

/-- The answer the platform chose. -/
def Answer.toBus : Answer → BusAnswer
  | .memory => .memory
  | .device => .device
  | .error => .error

/-- `BusResp(a, n, dir)` (R83). -/
def busResp (p : Platform) (a : Addr) (w : Width) (d : Dir) : BusAnswer :=
  if p.inEng a || p.inMux a then .self
  else match p.regions.find? (·.covers a w d) with
    | some r => r.answer.toBus
    | none => p.other.toBus

/-- A bus access of the data mover is recorded. -/
def State.logBus (s : State) (e : BusEvent) : State := { s with trace := e :: s.trace }

/-- A free value is drawn. -/
def State.drawn (s : State) : State := { s with draws := s.draws + 1 }

/-- One read of 1, 2 or 4 bytes by the data mover: a part of `MemRead` (R86). -/
def busRead (a : Addr) (w : Width) (s : State) : BusResult :=
  match busResp s.platform a w .read with
  | .self => .self
  | .error => .error (s.logBus ⟨.read, a, w, [], false⟩)
  | .memory =>
    let b := s.mem.read a w.bytes
    .done b (s.logBus ⟨.read, a, w, b, true⟩)
  | .device =>
    let b := (bytes32 (Config.deviceData s.draws a)).take w.bytes
    .done b (s.drawn.logBus ⟨.read, a, w, b, true⟩)

/-- One write of 1, 2 or 4 bytes by the data mover: a part of `MemWrite` (R87). -/
def busWrite (a : Addr) (w : Width) (b : List Byte) (s : State) : BusResult :=
  match busResp s.platform a w .write with
  | .self => .self
  | .error => .error (s.logBus ⟨.write, a, w, b, false⟩)
  | .memory => .done b (({ s with mem := s.mem.write a b } : State).logBus ⟨.write, a, w, b, true⟩)
  | .device => .done b (s.logBus ⟨.write, a, w, b, true⟩)

/-- `u`: the size of the parts of an element of `n` bytes (R85). -/
def partWidth (n : Nat) : Width := if n = 1 then .one else if n = 2 then .two else .four

/-! ### Error capture, the block's taking of an exception (R280, R288) -/

/-- The code of an error kind, its bit in `ES` (R280). -/
def ErrKind.code : ErrKind → Nat
  | .dbe => 0 | .sbe => 1 | .sge => 2 | .nce => 3 | .doe => 4 | .dae => 5 | .soe => 6 | .sae => 7
  | .cpe => 14 | .gpe => 15 | .ecx => 16

/-- `ES[16:0]` of a capture: the bits of the kinds, and the channel in bits 12:8 (R22, R288). -/
def errRecord (c : Chan) (kinds : List ErrKind) : BitVec 17 :=
  kinds.foldl (fun r k => r ||| BitVec.twoPow 17 k.code) (c.setWidth 17 <<< 8)

/-- `raise ChannelError(c, F)` (R288). -/
def raiseChannelError (c : Chan) (kinds : List ErrKind) (s : State) : State :=
  { s.updSlot c (setActive · false) with
    es := errRecord c kinds
    err := putBit s.err c.toNat true
    inprog := putBit s.inprog c.toNat false
    cr := { s.cr with cx := false, ecx := false }
    cur := none }

/-! ### Acknowledgment, the block's return from an exception (R127, R298, R305) -/

/-- The writes `CINT n`, `CDNE n`, `CERR n` of `ACK n` (R127) on the block: the latches and the done bit of
channel `n` are cleared. Nothing is restored: there is no saved state (R305). -/
def State.acknowledge (s : State) (n : Chan) : State :=
  { s.updSlot n (setDone · false) with
    int := clearBits s.int (selOne n)
    err := clearBits s.err (selOne n) }

end Sys2Proof.Machine
end

