-- ==== Sys2Proof/Machine/Commands.lean ====
section
/-! DEFINITION. The meanings of the eight commands (R250 to R259), each in its three forms: one channel, all
channels, no operation. A command is one step; it never fails. -/

namespace Sys2Proof.Machine

/-! ### Effects on a selection of channels -/

/-- `for n in Sel: EEI[n] <- 0` (R251). -/
def State.clearEei (s : State) (sel : Word) : State := { s with eei := clearBits s.eei sel }
/-- `for n in Sel: EEI[n] <- 1` (R252). -/
def State.setEei (s : State) (sel : Word) : State := { s with eei := setBits s.eei sel }
/-- `for n in Sel: ERQ[n] <- 0` (R253). -/
def State.clearErq (s : State) (sel : Word) : State := { s with erq := clearBits s.erq sel }
/-- `for n in Sel: ERQ[n] <- 1` (R254). -/
def State.setErq (s : State) (sel : Word) : State := { s with erq := setBits s.erq sel }
/-- `for n in Sel: TCD[n].CSR.DONE <- 0` (R255); allowed on an executing channel (R250). -/
def State.clearDone (s : State) (sel : Word) : State := s.overSlots sel (setDone · false)
/-- `for n in Sel: TCD[n].CSR.START <- 1` (R256); allowed on an executing channel (R250). -/
def State.startSlots (s : State) (sel : Word) : State := s.overSlots sel (setStart · true)
/-- `for n in Sel: ERR[n] <- 0` (R257). -/
def State.clearErr (s : State) (sel : Word) : State := { s with err := clearBits s.err sel }
/-- `for n in Sel: INT[n] <- 0` (R258). -/
def State.clearInt (s : State) (sel : Word) : State := { s with int := clearBits s.int sel }

/-! ### The 24 command forms -/

/-- `CEEI`, clear enable error interrupt, one channel (R251). -/
def execCeei (ch : Chan) (s : State) : Out := .next (s.clearEei (selOne ch)).ack
/-- `CEEI all` (R251). -/
def execCeeiAll (s : State) : Out := .next (s.clearEei selAll).ack
/-- `CEEI nop`: no operation (R259). -/
def execCeeiNop (s : State) : Out := .next s.ack

/-- `SEEI`, set enable error interrupt, one channel (R252). -/
def execSeei (ch : Chan) (s : State) : Out := .next (s.setEei (selOne ch)).ack
/-- `SEEI all` (R252). -/
def execSeeiAll (s : State) : Out := .next (s.setEei selAll).ack
/-- `SEEI nop`: no operation (R259). -/
def execSeeiNop (s : State) : Out := .next s.ack

/-- `CERQ`, clear enable request, one channel (R253). -/
def execCerq (ch : Chan) (s : State) : Out := .next (s.clearErq (selOne ch)).ack
/-- `CERQ all` (R253). -/
def execCerqAll (s : State) : Out := .next (s.clearErq selAll).ack
/-- `CERQ nop`: no operation (R259). -/
def execCerqNop (s : State) : Out := .next s.ack

/-- `SERQ`, set enable request, one channel (R254). -/
def execSerq (ch : Chan) (s : State) : Out := .next (s.setErq (selOne ch)).ack
/-- `SERQ all` (R254). -/
def execSerqAll (s : State) : Out := .next (s.setErq selAll).ack
/-- `SERQ nop`: no operation (R259). -/
def execSerqNop (s : State) : Out := .next s.ack

/-- `CDNE`, clear done, one channel (R255). -/
def execCdne (ch : Chan) (s : State) : Out := .next (s.clearDone (selOne ch)).ack
/-- `CDNE all` (R255). -/
def execCdneAll (s : State) : Out := .next (s.clearDone selAll).ack
/-- `CDNE nop`: no operation (R259). -/
def execCdneNop (s : State) : Out := .next s.ack

/-- `SSRT`, set start, one channel (R256). -/
def execSsrt (ch : Chan) (s : State) : Out := .next (s.startSlots (selOne ch)).ack
/-- `SSRT all` (R256). -/
def execSsrtAll (s : State) : Out := .next (s.startSlots selAll).ack
/-- `SSRT nop`: no operation (R259). -/
def execSsrtNop (s : State) : Out := .next s.ack

/-- `CERR`, clear error, one channel (R257). -/
def execCerr (ch : Chan) (s : State) : Out := .next (s.clearErr (selOne ch)).ack
/-- `CERR all` (R257). -/
def execCerrAll (s : State) : Out := .next (s.clearErr selAll).ack
/-- `CERR nop`: no operation (R259). -/
def execCerrNop (s : State) : Out := .next s.ack

/-- `CINT`, clear interrupt request, one channel (R258). -/
def execCint (ch : Chan) (s : State) : Out := .next (s.clearInt (selOne ch)).ack
/-- `CINT all` (R258). -/
def execCintAll (s : State) : Out := .next (s.clearInt selAll).ack
/-- `CINT nop`: no operation (R259). -/
def execCintNop (s : State) : Out := .next s.ack

end Sys2Proof.Machine
end

