-- ==== Sys2Proof/Machine/Descriptor.lean ====
section
/-! DEFINITION. The meanings of a descriptor and of the words of its fields (R110 to R115). The spec gives
these words no access of their own; the model takes each as what puts the word into a slot, which is the
host's write of the field (R241) and, for the whole descriptor, the one update of all eleven fields of
R172 (assumption 7). What the data mover then does with a field is `Mover.lean`. -/

namespace Sys2Proof.Machine

/-- `slotimage` (R172): what a slot holds after an image is loaded; `ACTIVE` is 0 and bit 13 holds nothing. -/
def slotImage (d : Tcd) : Tcd := { d with csr := d.csr &&& 0xDFBF }

/-- A descriptor loaded into slot `n`, all eleven fields at once (R30, R127, R172); refused while the channel
executes (R331). -/
def execTcd (n : Chan) (d : Tcd) (s : State) : Out :=
  if csrActive (s.slot n) then .refused (.slotBusy n) else .next (s.setSlot n (slotImage d)).ack

/-- A word stored into a field of slot `n` (R241). -/
def storeWord {w : Nat} (put : Tcd → BitVec w → Tcd) (n : Chan) (v : BitVec w) (s : State) : Out :=
  slotAccess (fun _ => v) put n (.write v) s

/-- An `ATTR` word (R111). -/
def execAttr (n : Chan) (w : AttrWord) (s : State) : Out :=
  storeWord (fun t v => { t with attr := v }) n (wordOfAttr w) s

/-- An `NBYTES` word of the plain form (R112). -/
def execNbytesPlain (n : Chan) (count : BitVec 30) (s : State) : Out :=
  storeWord (fun t v => { t with nbytes := v }) n (wordOfNbytesPlain count) s

/-- An `NBYTES` word of the form with a minor-loop offset (R112). -/
def execNbytesOff (n : Chan) (smloe dmloe : Bool) (mloff : BitVec 20) (count : BitVec 10) (s : State) : Out :=
  storeWord (fun t v => { t with nbytes := v }) n (wordOfNbytesOff smloe dmloe mloff count) s

/-- An iteration-count word put into `CITER` or `BITER`. -/
def putIter (f : IterField) (t : Tcd) (v : Half) : Tcd :=
  match f with
  | .citer => { t with citer := v }
  | .biter => { t with biter := v }

/-- A `CITER` or `BITER` word of the plain form (R113). -/
def execIterPlain (n : Chan) (f : IterField) (count : BitVec 15) (s : State) : Out :=
  storeWord (putIter f) n (wordOfIterPlain count) s

/-- A `CITER` or `BITER` word of the form with a channel link (R113). -/
def execIterLink (n : Chan) (f : IterField) (rsvd : Bool) (linkCh : Chan) (count : BitVec 9) (s : State) : Out :=
  storeWord (putIter f) n (wordOfIterLink rsvd linkCh count) s

/-- A `CSR` word (R114): bit 13 and `ACTIVE` of the word are dropped (R241). -/
def execCsr (n : Chan) (w : CsrWord) (s : State) : Out :=
  storeWord (fun t v => { t with csr := csrWritten t.csr v }) n (wordOfCsr w) s

/-- A `DLAST_SGA` word of a descriptor with `ESG = 0`: the final destination adjustment (R115). -/
def execDlast (n : Chan) (adjustment : Word) (s : State) : Out :=
  storeWord (fun t v => { t with dlastSga := v }) n adjustment s

/-- A `DLAST_SGA` word of a descriptor with `ESG = 1`: the address of the next descriptor (R115). -/
def execSga (n : Chan) (link : BitVec 27) (s : State) : Out :=
  storeWord (fun t v => { t with dlastSga := v }) n (wordOfSga link) s

end Sys2Proof.Machine
end

