-- ==== Sys2Proof/Machine/Flags.lean ====
section
/-! DEFINITION. Every flag the spec computes from the state: the router's outputs (R191), requests and
priorities (R200, R201), the configuration check (R141), what the registers read as (R233 to R243), the
interrupt outputs (R296), the channel state (R220), the status words (R222) and polling (R261). -/

namespace Sys2Proof.Machine

/-! ### Router and requests -/

/-- `rout(n)` (R191). -/
def rout (s : State) (n : Chan) : Bool :=
  let c := s.cfg n
  if !c.enbl then false
  else
    let base := if c.aOn then true else if c.source = 0 then false else s.srcline.getLsbD c.source.toNat
    if n.toNat < 4 && c.trig then base && s.trg.getLsbD n.toNat else base

/-- `ERQ[n] and rout(n)`: the enabled hardware request of a channel (R28). -/
def hwRequest (s : State) (n : Chan) : Bool := s.erq.getLsbD n.toNat && rout s n

/-- `req(n)` (R200). -/
def req (s : State) (n : Chan) : Bool :=
  !csrActive (s.slot n) && (csrStart (s.slot n) || hwRequest s n)

/-- The priority of a channel's group: `CR.GRP1PRI` for channels 16 to 31, else `CR.GRP0PRI`. -/
def groupPri (s : State) (n : Chan) : Bool := if n.getLsbD 4 then s.cr.grp1pri else s.cr.grp0pri

/-- `prio(n)` (R201): the pair of group priority and channel priority as one number, whose order is that of
the pairs because `CHPRI` is below 16. -/
def prio (s : State) (n : Chan) : Nat := 16 * (groupPri s n).toNat + (s.pri n).chpri.toNat

/-- The members of a list of channels with the greatest `prio`. -/
def highest (s : State) (l : List Chan) : List Chan := l.filter fun n => l.all fun m => decide (prio s m ≤ prio s n)

/-- The member of a list of channels with the greatest `prio`; among several it is a draw (R203), which
the returned state has counted. -/
def choose (s : State) (l : List Chan) : Option (Chan × State) :=
  match highest s l with
  | [] => none
  | [n] => some (n, s)
  | n :: m :: rest =>
    some ((n :: m :: rest).getD (Config.tieBreak s.draws % (n :: m :: rest).length) n, s.drawn)

/-! ### The configuration check (R141) -/

/-- A list of priorities holds one twice. -/
def hasDuplicate : List (BitVec 4) → Bool
  | [] => false
  | x :: xs => xs.contains x || hasDuplicate xs

/-- The channel priorities of group 0 or 1, in channel order. -/
def groupChpris (s : State) (g : Bool) : List (BitVec 4) :=
  ((channels.filter fun n => n.getLsbD 4 == g).map fun n => (s.pri n).chpri)

/-- Two channels of one group have equal `CHPRI`. -/
def chpriCollision (s : State) : Bool := hasDuplicate (groupChpris s false) || hasDuplicate (groupChpris s true)

/-- A kind, when its condition holds. -/
def kindIf (b : Bool) (k : ErrKind) : List ErrKind := if b then [k] else []

/-- The part of `confcheck` that reads the slot (R141). -/
def slotErrors (t : Tcd) : List ErrKind :=
  let sok := decide (ssizeCode t ≤ 5)
  let dok := decide (dsizeCode t ≤ 5)
  kindIf (!sok || !multipleOf t.saddr (ssizeCode t)) .sae ++
  kindIf (sok && !multipleOf t.soff (ssizeCode t)) .soe ++
  kindIf (!dok || !multipleOf t.daddr (dsizeCode t)) .dae ++
  kindIf (dok && !multipleOf t.doff (dsizeCode t)) .doe ++
  kindIf (nbytes t == 0
    || (sok && !multipleOf (nbytes t) (ssizeCode t))
    || (dok && !multipleOf (nbytes t) (dsizeCode t))
    || count t.citer == 0
    || elink t.citer != elink t.biter) .nce ++
  kindIf (csrEsg t && !multipleOf t.dlastSga 5) .sge

/-- The part of `confcheck` that looks at the priorities of all channels (R141, R283). -/
def priorityErrors (s : State) : List ErrKind :=
  kindIf (s.cr.grp0pri == s.cr.grp1pri) .gpe ++ kindIf (chpriCollision s) .cpe

/-- `confcheck(c)` (R141). -/
def confcheck (s : State) (c : Chan) : List ErrKind := slotErrors (s.slot c) ++ priorityErrors s

/-! ### What registers read as -/

/-- A 32-bit value given bit by bit, bit `n` for channel `n`. -/
def perChannel (f : Chan → Bool) : Word := channels.foldl (fun v n => putBit v n.toNat (f n)) 0

/-- `CR` as read (R233). -/
def crRead (s : State) : Word :=
  0#14 ++ BitVec.ofBool s.cr.cx ++ BitVec.ofBool s.cr.ecx ++ 0#5 ++ BitVec.ofBool s.cr.grp1pri ++ 0#1 ++
  BitVec.ofBool s.cr.grp0pri ++ 0#8

/-- `ES.VLD` (R290). -/
def esVld (s : State) : Bool := s.err != 0

/-- `ES` as read (R234): bit 13 is zero. -/
def esRead (s : State) : Word :=
  BitVec.ofBool (esVld s) ++ 0#14 ++ s.es.extractLsb' 14 3 ++ 0#1 ++ s.es.extractLsb' 0 13

/-- `ES.ERRCHN` (R22). -/
def esErrChn (s : State) : Chan := s.es.extractLsb' 8 5

/-- `HRS` as read (R28, R239). -/
def hrsRead (s : State) : Word := perChannel (hwRequest s)

/-- `DCHPRI[n]` as read (R240). -/
def dchpriRead (s : State) (n : Chan) : Byte :=
  BitVec.ofBool (s.pri n).ecp ++ BitVec.ofBool (s.pri n).dpa ++ 0#1 ++ BitVec.ofBool (groupPri s n) ++ (s.pri n).chpri

/-- `CHCFG[n]` as read (R243). -/
def chcfgRead (s : State) (n : Chan) : Word :=
  BitVec.ofBool (s.cfg n).enbl ++ BitVec.ofBool (s.cfg n).trig ++ BitVec.ofBool (s.cfg n).aOn ++ 0#22 ++ (s.cfg n).source

/-! ### Outputs and status -/

/-- `irq_ch[n]` (R296). -/
def irqCh (s : State) (n : Chan) : Bool := s.int.getLsbD n.toNat

/-- `irq_err` (R296). -/
def irqErr (s : State) : Bool := (s.err &&& s.eei) != 0

/-- `chstate(n)` (R220). -/
def chstate (s : State) (n : Chan) : ChState :=
  if s.err.getLsbD n.toNat then .faulted
  else if csrActive (s.slot n) || s.inprog.getLsbD n.toNat then .running
  else if csrDone (s.slot n) then .done
  else if csrStart (s.slot n) || hwRequest s n then .triggered
  else if s.erq.getLsbD n.toNat then .enabled
  else if (s.cfg n).enbl then .bound
  else .free

/-- The status word "armed" (R222). -/
def statusArmed (s : State) (n : Chan) : Bool :=
  chstate s n == .enabled || chstate s n == .triggered || chstate s n == .running

/-- The status word "trigger-pending" (R222). -/
def statusTriggerPending (s : State) (n : Chan) : Bool := hwRequest s n || csrStart (s.slot n)

/-- The status word "enabled" (R222). -/
def statusEnabled (s : State) (n : Chan) : Bool := s.erq.getLsbD n.toNat

/-- The status word "busy" (R222). -/
def statusBusy (s : State) (n : Chan) : Bool := csrActive (s.slot n)

/-- The status word "error" (R222). -/
def statusError (s : State) (n : Chan) : Bool := s.err.getLsbD n.toNat

/-- The status word "done" (R222). -/
def statusDone (s : State) (n : Chan) : Bool := csrDone (s.slot n)

/-- What polling channel `n` finds (R261): the kind is known only while `ES` holds this channel's record. -/
def poll (s : State) (n : Chan) : PollStatus :=
  if s.err.getLsbD n.toNat then .error (if esErrChn s = n then some s.es else none)
  else if csrDone (s.slot n) then .complete
  else .pending

end Sys2Proof.Machine
end

