-- ==== Sys2Proof/Machine/EngineRegs.lean ====
section
/-! DEFINITION. The meanings of the host's accesses to the engine's registers (R233 to R240). None fails. -/

namespace Sys2Proof.Machine

/-- A channel executes or is suspended: the cancel bits are held only then (R233, R268). -/
def executing (s : State) : Bool := s.cur.isSome || s.susp.isSome

/-- `CR <- v` (R233). -/
def State.writeCr (s : State) (v : Word) : State :=
  { s with cr :=
    { grp1pri := v.getLsbD 10
      grp0pri := v.getLsbD 8
      cx := executing s && v.getLsbD 17
      ecx := executing s && v.getLsbD 16 } }

/-- `DCHPRI[n] <- v`: bits 5:4 are read-only (R240). -/
def State.writeDchpri (s : State) (n : Chan) (v : Byte) : State :=
  s.setPri n { ecp := v.getLsbD 7, dpa := v.getLsbD 6, chpri := v.extractLsb' 0 4 }

/-- `CR` (R233). -/
def execCr (a : Access 32) (s : State) : Out :=
  match a with
  | .read => .next (s.returns (crRead s))
  | .write v => .next (s.writeCr v).ack

/-- `ES`: read-only, a store is taken and ignored (R232, R234). -/
def execEs (a : Access 32) (s : State) : Out :=
  match a with
  | .read => .next (s.returns (esRead s))
  | .write _ => .next s.ack

/-- `ERQ` (R235). -/
def execErq (a : Access 32) (s : State) : Out :=
  match a with
  | .read => .next (s.returns s.erq)
  | .write v => .next ({ s with erq := v } : State).ack

/-- `EEI` (R236). -/
def execEei (a : Access 32) (s : State) : Out :=
  match a with
  | .read => .next (s.returns s.eei)
  | .write v => .next ({ s with eei := v } : State).ack

/-- `INT`: a store clears the latches whose bit is 1 (R237). -/
def execInt (a : Access 32) (s : State) : Out :=
  match a with
  | .read => .next (s.returns s.int)
  | .write v => .next ({ s with int := s.int &&& ~~~v } : State).ack

/-- `ERR`: a store clears the latches whose bit is 1 (R238). -/
def execErr (a : Access 32) (s : State) : Out :=
  match a with
  | .read => .next (s.returns s.err)
  | .write v => .next ({ s with err := s.err &&& ~~~v } : State).ack

/-- `HRS`: read-only, a store is taken and ignored (R232, R239). -/
def execHrs (a : Access 32) (s : State) : Out :=
  match a with
  | .read => .next (s.returns (hrsRead s))
  | .write _ => .next s.ack

/-- `DCHPRI[n]` (R240). -/
def execDchpri (n : Chan) (a : Access 8) (s : State) : Out :=
  match a with
  | .read => .next (s.returns (dchpriRead s n))
  | .write v => .next (s.writeDchpri n v).ack

end Sys2Proof.Machine
end

