-- ==== Sys2Proof/Machine/Router.lean ====
section
/-! DEFINITION. The meaning of the host's access to a router register (R243). It never fails. -/

namespace Sys2Proof.Machine

/-- `CHCFG[n] <- v`: `TRIG` exists on channels 0 to 3 only, whose trigger latch the write clears (R243). -/
def State.writeChcfg (s : State) (n : Chan) (v : Word) : State :=
  (s.setCfg n
    { enbl := v.getLsbD 31
      trig := decide (n.toNat < 4) && v.getLsbD 30
      aOn := v.getLsbD 29
      source := v.extractLsb' 0 7 }).setTrg n false

/-- `CHCFG[n]` (R243). -/
def execChcfg (n : Chan) (a : Access 32) (s : State) : Out :=
  match a with
  | .read => .next (s.returns (chcfgRead s n))
  | .write v => .next (s.writeChcfg n v).ack

end Sys2Proof.Machine
end

