-- ==== Sys2Proof/Machine/SlotRegs.lean ====
section
/-! DEFINITION. The meanings of the host's accesses to the eleven fields of a descriptor slot (R241, R242). -/

namespace Sys2Proof.Machine

/-- `TCD[n].SADDR` (R241, R242). -/
def execTcdSaddr (n : Chan) (a : Access 32) (s : State) : Out :=
  slotAccess Tcd.saddr (fun t v => { t with saddr := v }) n a s

/-- `TCD[n].SOFF` (R241, R242). -/
def execTcdSoff (n : Chan) (a : Access 16) (s : State) : Out :=
  slotAccess Tcd.soff (fun t v => { t with soff := v }) n a s

/-- `TCD[n].ATTR` (R241, R242). -/
def execTcdAttr (n : Chan) (a : Access 16) (s : State) : Out :=
  slotAccess Tcd.attr (fun t v => { t with attr := v }) n a s

/-- `TCD[n].NBYTES` (R241, R242). -/
def execTcdNbytes (n : Chan) (a : Access 32) (s : State) : Out :=
  slotAccess Tcd.nbytes (fun t v => { t with nbytes := v }) n a s

/-- `TCD[n].SLAST` (R241, R242). -/
def execTcdSlast (n : Chan) (a : Access 32) (s : State) : Out :=
  slotAccess Tcd.slast (fun t v => { t with slast := v }) n a s

/-- `TCD[n].DADDR` (R241, R242). -/
def execTcdDaddr (n : Chan) (a : Access 32) (s : State) : Out :=
  slotAccess Tcd.daddr (fun t v => { t with daddr := v }) n a s

/-- `TCD[n].DOFF` (R241, R242). -/
def execTcdDoff (n : Chan) (a : Access 16) (s : State) : Out :=
  slotAccess Tcd.doff (fun t v => { t with doff := v }) n a s

/-- `TCD[n].CITER` (R241, R242). -/
def execTcdCiter (n : Chan) (a : Access 16) (s : State) : Out :=
  slotAccess Tcd.citer (fun t v => { t with citer := v }) n a s

/-- `TCD[n].DLAST_SGA` (R241, R242). -/
def execTcdDlastSga (n : Chan) (a : Access 32) (s : State) : Out :=
  slotAccess Tcd.dlastSga (fun t v => { t with dlastSga := v }) n a s

/-- `TCD[n].CSR`: a store writes every bit but 13, which holds nothing, and 6, `ACTIVE`; `START` and `DONE` are
written as given (R241). -/
def execTcdCsr (n : Chan) (a : Access 16) (s : State) : Out :=
  slotAccess Tcd.csr (fun t v => { t with csr := csrWritten t.csr v }) n a s

/-- `TCD[n].BITER` (R241, R242). -/
def execTcdBiter (n : Chan) (a : Access 16) (s : State) : Out :=
  slotAccess Tcd.biter (fun t v => { t with biter := v }) n a s

end Sys2Proof.Machine
end

