-- ==== Sys2Proof/Machine/Dispatch.lean ====
section
/-! DEFINITION. One arm per row of the opcode table. -/

namespace Sys2Proof.Machine

def exec (i : Instr) (s : State) : Host.Outcome State Fault Refusal :=
  match i with
  | .ceei ch => Sys2Proof.Machine.execCeei ch s
  | .ceeiAll => Sys2Proof.Machine.execCeeiAll s
  | .ceeiNop => Sys2Proof.Machine.execCeeiNop s
  | .seei ch => Sys2Proof.Machine.execSeei ch s
  | .seeiAll => Sys2Proof.Machine.execSeeiAll s
  | .seeiNop => Sys2Proof.Machine.execSeeiNop s
  | .cerq ch => Sys2Proof.Machine.execCerq ch s
  | .cerqAll => Sys2Proof.Machine.execCerqAll s
  | .cerqNop => Sys2Proof.Machine.execCerqNop s
  | .serq ch => Sys2Proof.Machine.execSerq ch s
  | .serqAll => Sys2Proof.Machine.execSerqAll s
  | .serqNop => Sys2Proof.Machine.execSerqNop s
  | .cdne ch => Sys2Proof.Machine.execCdne ch s
  | .cdneAll => Sys2Proof.Machine.execCdneAll s
  | .cdneNop => Sys2Proof.Machine.execCdneNop s
  | .ssrt ch => Sys2Proof.Machine.execSsrt ch s
  | .ssrtAll => Sys2Proof.Machine.execSsrtAll s
  | .ssrtNop => Sys2Proof.Machine.execSsrtNop s
  | .cerr ch => Sys2Proof.Machine.execCerr ch s
  | .cerrAll => Sys2Proof.Machine.execCerrAll s
  | .cerrNop => Sys2Proof.Machine.execCerrNop s
  | .cint ch => Sys2Proof.Machine.execCint ch s
  | .cintAll => Sys2Proof.Machine.execCintAll s
  | .cintNop => Sys2Proof.Machine.execCintNop s
  | .cr a => Sys2Proof.Machine.execCr a s
  | .es a => Sys2Proof.Machine.execEs a s
  | .erq a => Sys2Proof.Machine.execErq a s
  | .eei a => Sys2Proof.Machine.execEei a s
  | .int a => Sys2Proof.Machine.execInt a s
  | .err a => Sys2Proof.Machine.execErr a s
  | .hrs a => Sys2Proof.Machine.execHrs a s
  | .dchpri n a => Sys2Proof.Machine.execDchpri n a s
  | .tcdSaddr n a => Sys2Proof.Machine.execTcdSaddr n a s
  | .tcdSoff n a => Sys2Proof.Machine.execTcdSoff n a s
  | .tcdAttr n a => Sys2Proof.Machine.execTcdAttr n a s
  | .tcdNbytes n a => Sys2Proof.Machine.execTcdNbytes n a s
  | .tcdSlast n a => Sys2Proof.Machine.execTcdSlast n a s
  | .tcdDaddr n a => Sys2Proof.Machine.execTcdDaddr n a s
  | .tcdDoff n a => Sys2Proof.Machine.execTcdDoff n a s
  | .tcdCiter n a => Sys2Proof.Machine.execTcdCiter n a s
  | .tcdDlastSga n a => Sys2Proof.Machine.execTcdDlastSga n a s
  | .tcdCsr n a => Sys2Proof.Machine.execTcdCsr n a s
  | .tcdBiter n a => Sys2Proof.Machine.execTcdBiter n a s
  | .chcfg n a => Sys2Proof.Machine.execChcfg n a s
  | .tcd n d => Sys2Proof.Machine.execTcd n d s
  | .attr n w => Sys2Proof.Machine.execAttr n w s
  | .nbytesPlain n count => Sys2Proof.Machine.execNbytesPlain n count s
  | .nbytesOff n smloe dmloe mloff count => Sys2Proof.Machine.execNbytesOff n smloe dmloe mloff count s
  | .iterPlain n f count => Sys2Proof.Machine.execIterPlain n f count s
  | .iterLink n f rsvd linkCh count => Sys2Proof.Machine.execIterLink n f rsvd linkCh count s
  | .csr n w => Sys2Proof.Machine.execCsr n w s
  | .dlast n adjustment => Sys2Proof.Machine.execDlast n adjustment s
  | .sga n link => Sys2Proof.Machine.execSga n link s

end Sys2Proof.Machine
end

