-- ==== Sys2Proof/Machine/Environment.lean ====
section
/-! DEFINITION. What the environment does to the block (R63): request lines, trigger pulses (R194) and the
reset input (R320, R321). -/

namespace Sys2Proof.Machine

/-- A request line takes a level (R63, R190). -/
def applyLine (slot : BitVec 7) (level : Bool) (s : State) : State :=
  { s with srcline := putBit s.srcline slot.toNat level }

/-- A pulse on a trigger input sets the latch while the channel is enabled in trigger mode (R62, R194). -/
def applyPulse (n : BitVec 2) (s : State) : State :=
  let c : Chan := n.setWidth 5
  if (s.cfg c).enbl && (s.cfg c).trig then s.setTrg c true else s

/-- A slot after a reset event: `CSR` is 0 and the other fields have no specified value (R320, R321): they
are free values of draw `d`. -/
def slotUnspecified (d n : Nat) : Tcd where
  saddr := Config.unspecified d (16 * n + 0)
  soff := (Config.unspecified d (16 * n + 1)).setWidth 16
  attr := (Config.unspecified d (16 * n + 2)).setWidth 16
  nbytes := Config.unspecified d (16 * n + 3)
  slast := Config.unspecified d (16 * n + 4)
  daddr := Config.unspecified d (16 * n + 5)
  doff := (Config.unspecified d (16 * n + 6)).setWidth 16
  citer := (Config.unspecified d (16 * n + 7)).setWidth 16
  dlastSga := Config.unspecified d (16 * n + 8)
  csr := 0
  biter := (Config.unspecified d (16 * n + 9)).setWidth 16

/-- The reset event (R320): the block's state takes the values of R70 in one step; memory, the inputs and what
lies outside the block stay. -/
def blockReset (s : State) : State :=
  { s.drawn with
    cr := .atReset
    es := 0
    erq := 0
    eei := 0
    int := 0
    err := 0
    dchpri := Vector.ofFn fun i => .atReset i.val
    tcd := Vector.ofFn fun i => slotUnspecified s.draws i.val
    chcfg := Vector.replicate 32 .atReset
    inprog := 0
    trg := 0
    cur := none
    susp := none }

/-- The reset input takes a level (R320): asserted, the block is reset and held; released, it goes on. -/
def applyReset (level : Bool) (s : State) : State :=
  if level then { blockReset s with inReset := true } else { s with inReset := false }

end Sys2Proof.Machine
end

