-- ==== Sys2Proof/Machine/Mover.lean ====
section
/-! DEFINITION. The data mover (R140 to R182) and the arbiter's steps (R202 to R212): activation, element reads
and writes, loop completion, scatter/gather load, links, cancel, preemption and resume. Each step makes
at most one bus access (R85: another agent may act between two parts of an access). -/

namespace Sys2Proof.Machine

/-! ### Activation (R140) -/

/-- The context a channel starts its minor loop with (R140). -/
def startCtx (c : Chan) (t : Tcd) : Ctx :=
  { ch := c, rem := nbytes t, sa := t.saddr, da := t.daddr, fifo := [], wr := false, part := .idle }

/-- The flags that activation writes (R140). -/
def markActive (c : Chan) (s : State) : State :=
  ({ s.updSlot c fun t => setActive (setDone (setStart t false) false) true with
     inprog := putBit s.inprog c.toNat true }).setTrg c false

/-- `activate(c)` (R140): the check of R141 decides between executing and error capture. -/
def activate (c : Chan) (s : State) : State :=
  match confcheck (markActive c s) c with
  | [] => { markActive c s with cur := some (startCtx c (s.slot c)) }
  | kinds => raiseChannelError c kinds (markActive c s)

/-! ### Element reads and writes (R150 to R153) -/

/-- The bytes of the present element already read. -/
def Part.got : Part → List Byte
  | .reading got => got
  | _ => []

/-- The number of bytes of the present element already written. -/
def Part.put : Part → Nat
  | .writing done => done
  | _ => 0

/-- The context after a whole source element has been read (R151). -/
def elementRead (x : Ctx) (t : Tcd) (element : List Byte) : Ctx :=
  { x with
    fifo := x.fifo ++ element
    sa := nextAddr x.sa (soff t) (smod t)
    wr := decide ((x.fifo ++ element).length = seqBytes t)
    part := .idle }

/-- The context after a whole destination element has been written (R152). -/
def elementWritten (x : Ctx) (t : Tcd) : Ctx :=
  let fifo := x.fifo.drop (dsize t)
  { x with
    fifo := fifo
    da := nextAddr x.da (doff t) (dmod t)
    wr := !fifo.isEmpty
    rem := if fifo.isEmpty then x.rem - BitVec.ofNat 32 (seqBytes t) else x.rem
    part := .idle }

/-- The next part of reading one source element (R86, R151). -/
def readElement (x : Ctx) (s : State) : Out :=
  let t := s.slot x.ch
  let a := x.sa + BitVec.ofNat 32 x.part.got.length
  match busRead a (partWidth (ssize t)) s with
  | .self => .refused (.selfAccess a)
  | .error s => .next (raiseChannelError x.ch [.sbe] s)
  | .done b s =>
    let got := x.part.got ++ b
    if got.length < ssize t then .next { s with cur := some { x with part := .reading got } }
    else .next { s with cur := some (elementRead x t got) }

/-- The next part of writing one destination element (R87, R152). -/
def writeElement (x : Ctx) (s : State) : Out :=
  let t := s.slot x.ch
  let w := partWidth (dsize t)
  let a := x.da + BitVec.ofNat 32 x.part.put
  match busWrite a w (((x.fifo.take (dsize t)).drop x.part.put).take w.bytes) s with
  | .self => .refused (.selfAccess a)
  | .error s => .next (raiseChannelError x.ch [.dbe] s)
  | .done _ s =>
    let put := x.part.put + w.bytes
    if put < dsize t then .next { s with cur := some { x with part := .writing put } }
    else .next { s with cur := some (elementWritten x t) }

/-! ### Completion (R160 to R175) -/

/-- A channel link: `TCD[k].CSR.START <- 1` (R163, R171). -/
def linkTo (k : Chan) (s : State) : State := s.updSlot k (setStart · true)

/-- `cancel_check(c)` (R266). -/
def cancelCheck (c : Chan) (s : State) : State :=
  if s.cr.ecx then
    raiseChannelError c [.ecx]
      { s with cr := { s.cr with cx := false, ecx := false }, inprog := putBit s.inprog c.toNat false }
  else if s.cr.cx then
    { s with cr := { s.cr with cx := false }, inprog := putBit s.inprog c.toNat false }
  else s

/-- The end of a completion (R160): a pending cancel is honoured and no channel executes. -/
def retire (c : Chan) (s : State) : State := { cancelCheck c s with cur := none }

/-- The slot after a minor loop that is not the last (R161). -/
def slotAfterMinor (x : Ctx) (t : Tcd) (newc : Half) : Tcd :=
  setActive
    { t with
      saddr := x.sa + (if smloe t then mloff t else 0)
      daddr := x.da + (if dmloe t then mloff t else 0)
      citer := setCount t.citer newc } false

/-- The half-complete interrupt's condition (R162). -/
def halfComplete (t : Tcd) (newc : Half) : Bool := csrIntHalf t && newc == count t.biter >>> 1

/-- `minor_done(c, newc)` (R161 to R163). -/
def minorDone (x : Ctx) (newc : Half) (s : State) : State :=
  let t := s.slot x.ch
  let s := s.setSlot x.ch (slotAfterMinor x t newc)
  let s := if halfComplete t newc then { s with int := putBit s.int x.ch.toNat true } else s
  if elink t.citer then linkTo (linkCh t.citer) s else s

/-- The slot after the last minor loop of a major loop, before any next descriptor replaces it (R170). -/
def slotAfterMajor (x : Ctx) (t : Tcd) : Tcd :=
  setDone (setActive
    { t with
      saddr := x.sa + t.slast
      daddr := if csrEsg t then x.da else x.da + t.dlastSga
      citer := t.biter } false) true

/-- The commit of `major_done(c)` up to the link (R170, R171, R174, R175). -/
def majorCommit (x : Ctx) (s : State) : State :=
  let t := s.slot x.ch
  let s := s.setSlot x.ch (slotAfterMajor x t)
  let s := if csrIntMajor t then { s with int := putBit s.int x.ch.toNat true } else s
  let s := if csrDreq t then { s with erq := putBit s.erq x.ch.toNat false } else s
  if csrMajorElink t then linkTo (csrMajorLinkCh t) s else s

/-- The completion of a major loop with no link to a next descriptor (R170, `esg = 0`). -/
def majorDone (x : Ctx) (s : State) : State :=
  let s := majorCommit x s
  retire x.ch { s with inprog := putBit s.inprog x.ch.toNat false }

/-- The completion of a major loop whose next descriptor has been read: the slot is replaced after the commit
(R170, R172). -/
def majorDoneLoad (x : Ctx) (image : List Byte) (s : State) : State :=
  retire x.ch ((majorCommit x s).setSlot x.ch (slotImage (tcdOfBytes image)))

/-- The completion of a major loop with a refused next-descriptor read: the commit stands, then `SBE` is
captured (R170, R300 (c)). -/
def majorDoneFailed (x : Ctx) (s : State) : State := raiseChannelError x.ch [.sbe] (majorCommit x s)

/-- One of the eight reads of the next descriptor (R172). -/
def loadWord (x : Ctx) (got : List Byte) (s : State) : Out :=
  let a := (s.slot x.ch).dlastSga + BitVec.ofNat 32 got.length
  match busRead a .four s with
  | .self => .refused (.selfAccess a)
  | .error s => .next { s with cur := some { x with part := .loadFailed } }
  | .done b s => .next { s with cur := some { x with part := .loading (got ++ b) } }

/-- The completion of a major loop with a link (R170, `esg = 1`): the reads, then the commit. -/
def majorLinked (x : Ctx) (s : State) : Out :=
  match x.part with
  | .loadFailed => .next (majorDoneFailed x s)
  | .loading got => if got.length < 32 then loadWord x got s else .next (majorDoneLoad x got s)
  | _ => loadWord x [] s

/-- `newc` (R160). -/
def newCount (t : Tcd) : Half := count t.citer - 1

/-- Minor-loop completion (R160). -/
def completion (x : Ctx) (s : State) : Out :=
  let t := s.slot x.ch
  if newCount t ≠ 0 then .next (retire x.ch (minorDone x (newCount t) s))
  else if csrEsg t then majorLinked x s
  else .next (majorDone x s)

/-! ### Arbitration, preemption, resume (R202 to R212) -/

/-- `R`, the channels that request service (R202). -/
def requesters (s : State) : List Chan := channels.filter (req s)

/-- `H` of R210: the channels that may preempt the executing one, none unless the rest of the condition
holds. -/
def preemptors (s : State) (e : Chan) : List Chan :=
  if s.susp.isNone && !s.cr.cx && !s.cr.ecx && (s.pri e).ecp then
    channels.filter fun h => req s h && !(s.pri h).dpa && decide (prio s e < prio s h)
  else []

/-- A sequence boundary (R150). -/
def atBoundary (x : Ctx) : Bool := !x.wr && x.fifo.isEmpty && x.part == .idle

/-- The step at a boundary of a minor loop with bytes left: preempt when R210's condition holds (R211), else
read (R145). -/
def boundaryStep (x : Ctx) (s : State) : Out :=
  match choose s (preemptors s x.ch) with
  | some (h, s) => .next (activate h { s with susp := some x, cur := none })
  | none => readElement x s

/-- The step of an idle data mover: arbitrate and activate the winner (R202); with no request it is idle,
which changes nothing (R145). -/
def arbitrate (s : State) : State :=
  match choose s (requesters s) with
  | some (w, s) => activate w s
  | none => s

/-- The data mover's enabled step (R145). -/
def moverStep (s : State) : Out :=
  match s.cur with
  | none =>
    match s.susp with
    | some x => .next { s with cur := some x, susp := none }
    | none => .next (arbitrate s)
  | some x =>
    if x.wr then writeElement x s
    else if x.rem = 0 then completion x s
    else if atBoundary x then boundaryStep x s
    else readElement x s

/-- The data mover's turn: while the reset input is asserted no rule applies and it does nothing (R320). -/
def moverTurn (s : State) : Out := if s.inReset then .next s else moverStep s

end Sys2Proof.Machine
end

