-- ==== Sys2Proof/Machine/Schedule.lean ====
section
/-! DEFINITION. Which agent acts next, and what its step does: the host's operations and its loads and stores
(R80, R230 to R232), the data mover (R145) and the inputs (R63). Any interleaving of whole steps is an
agenda (R95, R145). -/

namespace Sys2Proof.Machine

/-- A host operation given by the bytes of a table word: the decoded operation is executed. An access whose
offset and width select no register is a bus error to the host (R121, R122, R232), a load of a command
register returns 0 (R25); a wrong number of bytes is no access, and the turn passes with nothing done
(DESIGN CHOICE: assumption 18). While the reset input is asserted no rule of the block applies (R320). -/
def hostOperation (f : Format) (bytes : List Byte) (s : State) : Out :=
  if s.inReset then .refused .heldInReset
  else match decode f bytes with
    | .ok i => exec i s
    | .error .writeOnlyRead => .next (s.returns (0 : Byte))
    | .error .unmapped | .error .notACommand | .error .outsideSurface => .next s.hostBusError
    | .error .length => .next s

/-- The access control byte of an explicit width and direction (assumption 8). -/
def controlByte (w : Width) (d : Dir) : Byte :=
  (match w with | .one => 2 | .two => 4 | .four => 6) ||| (match d with | .read => 0 | .write => 1)

/-- A host access to the engine's surface at a byte offset. -/
def engAccessBytes (off : Half) (w : Width) (d : Dir) (v : Word) : List Byte :=
  bytes16 off ++ controlByte w d :: bytes32 v

/-- A host access to the router's surface at a byte offset. -/
def muxAccessBytes (off : Byte) (w : Width) (d : Dir) (v : Word) : List Byte :=
  off :: controlByte w d :: bytes32 v

/-- A host load or store outside the two surfaces (R80): memory holds what was last written, a device's data is
a free value, and a refused access is a bus error (assumption 10). The answer is that of the first byte's
address for the whole access (assumption 25). -/
def hostMemory (a : Addr) (w : Width) (d : Dir) (v : Word) (s : State) : Out :=
  match busResp s.platform a w d, d with
  | .memory, .read => .next (s.returns (le32 (s.mem.read a w.bytes)))
  | .memory, .write => .next ({ s with mem := s.mem.write a ((bytes32 v).take w.bytes) } : State).ack
  | .device, .read => .next (s.drawn.returns (le32 ((bytes32 (Config.deviceData s.draws a)).take w.bytes)))
  | .device, .write => .next s.ack
  | _, _ => .next s.hostBusError

/-- A host load or store at an address of the address space: a register access when its first byte lies inside a
surface (R82, R230), else an access to memory. An access of 2 or 4 bytes that starts just below a surface and
runs into it is an access to memory with all its bytes, those under the window among them: the spec gives it no
outcome (DESIGN CHOICE: assumption 25). -/
def hostAccess (a : Addr) (w : Width) (d : Dir) (v : Word) (s : State) : Out :=
  if s.platform.inEng a then
    hostOperation .eng16 (engAccessBytes ((a - s.platform.dmaBase).setWidth 16) w d v) s
  else if s.platform.inMux a then
    hostOperation .mux8 (muxAccessBytes ((a - s.platform.muxBase).setWidth 8) w d v) s
  else hostMemory a w d v s

/-- One event of the agenda. -/
def runEvent (e : Event) (s : State) : Out :=
  match e with
  | .host f bytes => hostOperation f bytes s
  | .bus a w d v => hostAccess a w d v s
  | .mover => moverTurn s
  | .line slot level => .next (applyLine slot level s)
  | .pulse n => .next (applyPulse n s)
  | .reset level => .next (applyReset level s)

/-- The next step: the first event of the agenda, or the data mover when there is none. -/
def nextStep (s : State) : Out :=
  match s.agenda with
  | [] => moverTurn s
  | e :: rest => runEvent e { s with agenda := rest }

/-- The event of a host operation whose bare table word is `w`. -/
def tableEvent (nbits w : Nat) : Event := .host (tableFormat nbits w) (tableBytes nbits w)

/-- An event put before all others, with the reset input released so that the block takes it. -/
def State.withNext (s : State) (e : Event) : State := { s with agenda := e :: s.agenda, inReset := false }

end Sys2Proof.Machine
end

