-- ==== Sys2Proof/Machine/Step.lean ====
section
/-! DEFINITION. The machine's step, and a state whose next step runs a given word of the opcode table. -/

namespace Sys2Proof.Machine

/-- One step of the machine. -/
def step (s : State) : Host.Outcome State Fault Refusal := nextStep s

/-- The state `s` with the operation of a table word first on its agenda (assumption 11). -/
def State.withFetchWord (s : State) (nbits w : Nat) : State := s.withNext (tableEvent nbits w)

end Sys2Proof.Machine
end

