-- ==== Sys2Proof/Safety.lean ====
section
/-! DEFINITION. What claims about the DMA block speak of: a run that neither faults nor is refused, which
channels execute, and the parts of the invariant that every step keeps. -/

namespace Sys2Proof.Safety

open Sys2Proof.Machine

/-- The machine goes on: its step ends in a next state. -/
def goesOn (s : State) : Prop := ∃ t, step s = .next t

/-- A context is channel `n`'s. -/
def isOf (o : Option Ctx) (n : Chan) : Bool := o.any fun x => x.ch == n

/-- Channel `n` executes or is suspended in mid-execution. -/
def executes (s : State) (n : Chan) : Bool := isOf s.cur n || isOf s.susp n

/-- The executing and the suspended context belong to different channels (R211). -/
def contextsDiffer (s : State) : Bool := s.cur.all fun x => s.susp.all fun y => x.ch != y.ch

/-- `ACTIVE` is 1 exactly for the executing and the suspended channel (R60). -/
def activeAgrees (s : State) : Prop := ∀ n, csrActive (s.slot n) = executes s n

/-- The reserved bits that State stores read 0 (R34): bit 13 of every `CSR`, bit 13 of `ES`, and `TRIG` of the
channels 4 to 31. -/
def reservedZero (s : State) : Prop :=
  (∀ n, (s.slot n).csr.getLsbD 13 = false) ∧ s.es.getLsbD 13 = false ∧
  ∀ n : Chan, 4 ≤ n.toNat → (s.cfg n).trig = false

/-- The cancel bits are held only while a channel executes (R233, R268). -/
def cancelHeld (s : State) : Prop := (s.cr.cx || s.cr.ecx) = true → executing s = true

/-- How far an access has come agrees with what the context is doing (R85, R172). -/
def partOk (t : Tcd) (x : Ctx) : Bool :=
  match x.part with
  | .idle => true
  | .reading got => !x.wr && x.rem != 0 && decide (0 < got.length ∧ got.length < ssize t ∧ got.length % 4 = 0)
  | .writing done => x.wr && decide (0 < done ∧ done < dsize t ∧ done % 4 = 0)
  | .loading got =>
    !x.wr && x.rem == 0 && newCount t == 0 && csrEsg t && decide (got.length ≤ 32 ∧ got.length % 4 = 0)
  | .loadFailed => !x.wr && x.rem == 0 && newCount t == 0 && csrEsg t

/-- The queue of a context holds whole elements: source elements while reading, destination elements while
writing, at most one sequence of them (R88, R150). -/
def fifoOk (t : Tcd) (x : Ctx) : Bool :=
  if x.wr then
    decide (0 < x.fifo.length ∧ x.fifo.length ≤ seqBytes t ∧ x.fifo.length % dsize t = 0) && x.rem != 0
  else decide (x.fifo.length < seqBytes t ∧ x.fifo.length % ssize t = 0) && (x.rem != 0 || x.fifo.isEmpty)

/-- A context on a slot that passed the configuration check: sizes legal, offsets and working addresses
multiples of the sizes, whole sequences left to move, a count of at least 1 and an aligned link
(R84, R141, R150, R153). -/
def ctxOk (t : Tcd) (x : Ctx) : Bool :=
  decide (ssizeCode t ≤ 5) && decide (dsizeCode t ≤ 5) &&
  multipleOf t.soff (ssizeCode t) && multipleOf t.doff (dsizeCode t) &&
  multipleOf x.sa (ssizeCode t) && multipleOf x.da (dsizeCode t) &&
  decide (x.rem.toNat % seqBytes t = 0) && count t.citer != 0 &&
  (!csrEsg t || multipleOf t.dlastSga 5) && fifoOk t x && partOk t x

/-- Every context fits its channel's slot, and a suspended one stands at a sequence boundary with bytes left
(R211, R212). -/
def contextsOk (s : State) : Prop :=
  (∀ x, s.cur = some x → ctxOk (s.slot x.ch) x = true) ∧
  (∀ y, s.susp = some y → ctxOk (s.slot y.ch) y = true ∧ atBoundary y = true ∧ y.rem ≠ 0)

/-- The contexts and the `ACTIVE` bits agree. -/
def executionAgrees (s : State) : Prop := activeAgrees s ∧ contextsDiffer s = true

/-- A bus access is naturally aligned: its address is a multiple of its size (R84). -/
def aligned (e : BusEvent) : Bool := decide (e.addr.toNat % e.width.bytes = 0)

/-- Every byte of memory reads in `t` as it does in `s`. -/
def sameBytes (s t : State) : Prop := ∀ a, t.mem.readByte a = s.mem.readByte a

/-- An operation of the host wrote channel `n`'s slot, which now holds `u`, and nothing else: every other slot,
every other part of the block, memory and the rest stay. -/
def wroteSlot (s t : State) (n : Chan) (u : Tcd) : Prop :=
  t = { s with tcd := t.tcd, hostReply := .ack } ∧ t.slot n = u ∧ (∀ m, m ≠ n → t.slot m = s.slot m) ∧ sameBytes s t

/-- An operation of the host read a register: the host has the value, and nothing else changed. -/
def readsAs (i : Instr) (s : State) (v : Word) : Prop := exec i s = .next { s with hostReply := .value v }

/-- A host access of the given width at an offset of `ENG` is the operation `i` (R121, R231). -/
def selects {k : Nat} (off : Half) (w : Width) (i : Access k → Instr) : Prop :=
  ∀ v : Word, decode .eng16 (engAccessBytes off w .read v) = .ok (i .read) ∧
    decode .eng16 (engAccessBytes off w .write v) = .ok (i (.write (v.setWidth k)))

/-- No agenda waits and the block is out of reset: the next step is the data mover's. -/
def moverNext (s : State) : Prop := s.agenda = [] ∧ s.inReset = false

/-- The channels' request inputs are quiet: nothing is enabled and nothing is started (R323). -/
def quiescent (s : State) : Prop :=
  s.erq = 0 ∧ s.cur = none ∧ s.susp = none ∧ ∀ n, csrStart (s.slot n) = false

end Sys2Proof.Safety
end

