-- ==== Sys2Proof/Certificates/Slice0/Obligations.lean ====
section
/-! DEFINITION. The statements about the DMA block: what decoding, every operation of the opcode table, the data
mover's steps, error capture and reset do, and what every step keeps. -/

open Sys2Proof Sys2Proof.Machine Sys2Proof.Safety

/-! ### Encoding and the step -/

/-- Decode and encode agree on every well-formed operation, with every operand at every value (R110 to R122). -/
def Obligations.DecodeEncodeAgree : Prop :=
  ∀ i, WellFormed i = true → decode (encode i).1 (encode i).2 = .ok i

/-- Table words written out from the spec's tables and vectors (R112 to R122, vectors A3 to A9) decode to the
operations they stand for. The spec gives only the first one, two or four bytes of each line: the control byte, the
value bytes and the slot byte after them are the model's own layout of the operands (DESIGN CHOICE: assumption 8). -/
def Obligations.SpecWordsDecode : Prop :=
  decode .cmd8 [0x25, 0x1B] = .ok (.serq 5) ∧
  decode .cmd8 [0x5F, 0x1A] = .ok .cerqAll ∧
  decode .cmd8 [0x9F, 0x1F] = .ok .cintNop ∧
  decode .eng16 [0xBC, 0x10, 0x01, 0x0A, 0x00, 0x00, 0x00] = .ok (.tcdCsr 5 (.write 0x000A)) ∧
  decode .eng16 [0x06, 0x01, 0x00, 0x00, 0x00, 0x00, 0x00] = .ok (.dchpri 5 .read) ∧
  decode .mux8 [0x14, 0x01, 0x13, 0x00, 0x00, 0x80] = .ok (.chcfg 5 (.write 0x80000013)) ∧
  decode .nbytes [0x08, 0xC0, 0xFF, 0xBF, 0x00] = .ok (.nbytesOff 0 true false 0xFFFF0 8) ∧
  decode .iter [0x03, 0x86, 0x02] = .ok (.iterLink 2 .citer false 3 3)

/-- When the agenda's next event is a host operation whose bytes decode to `i`, the step is `exec i` on the state
without that event (the block being out of reset, R320). That the next host operation stands first on an agenda is
the model's form of "any interleaving" (assumptions 11 and 12). -/
def Obligations.StepRunsDecodedOperation : Prop :=
  ∀ (s : State) (f : Format) (bytes : List Byte) (rest : List Event) (i : Instr),
    s.agenda = .host f bytes :: rest → s.inReset = false → decode f bytes = .ok i →
    step s = exec i { s with agenda := rest }

/-- R121, R122, R231, R232: an access inside a surface whose offset and width are no pair of R121's table (written
out here: the seven 4-byte registers, the command and priority bytes, the 4-byte and the 2-byte slot fields) or of
R122 is a bus error to the host and changes nothing in the block; a 1-byte load of a command register returns 0
(R25). That the host sees the error as a reply and goes on is the model's own
(assumptions 14 and 19). -/
def Obligations.UnselectedAccessesAreBusErrors : Prop :=
  ∀ (s : State) (rest : List Event) (w : Width) (d : Dir) (v : Word), s.inReset = false →
    (∀ off : Half, off.toNat < 0x2000 →
      ¬ (w = .four ∧ off.toNat ∈ [0x0000, 0x0004, 0x000C, 0x0014, 0x0024, 0x002C, 0x0034]) →
      ¬ (w = .one ∧ (0x0018 ≤ off.toNat ∧ off.toNat ≤ 0x001F ∨ 0x0100 ≤ off.toNat ∧ off.toNat ≤ 0x011F)) →
      ¬ (0x1000 ≤ off.toNat ∧ off.toNat ≤ 0x13FF ∧
          (w = .four ∧ off.toNat % 0x20 ∈ [0x00, 0x08, 0x0C, 0x10, 0x18] ∨
           w = .two ∧ off.toNat % 0x20 ∈ [0x04, 0x06, 0x14, 0x16, 0x1C, 0x1E])) →
      s.agenda = .host .eng16 (engAccessBytes off w d v) :: rest →
      step s = .next { s with agenda := rest, hostReply := .busError }) ∧
    (∀ off : Byte, off.toNat < 0x80 → (off.toNat % 4 ≠ 0 ∨ w ≠ .four) →
      s.agenda = .host .mux8 (muxAccessBytes off w d v) :: rest →
      step s = .next { s with agenda := rest, hostReply := .busError }) ∧
    (∀ k : BitVec 3, s.agenda = .host .eng16 (engAccessBytes (0x18 + k.setWidth 16) .one .read v) :: rest →
      step s = .next { s with agenda := rest, hostReply := .value 0 })

/-- R82, R230: a host load or store at an address of one of the two windows is the access to that surface at the
offset from its base. -/
def Obligations.WindowAccessesReachSurfaces : Prop :=
  ∀ (s : State) (rest : List Event) (w : Width) (d : Dir) (v : Word),
    (∀ off : Half, off.toNat < 0x2000 →
      step { s with agenda := .bus (s.platform.dmaBase + off.setWidth 32) w d v :: rest } =
        step { s with agenda := .host .eng16 (engAccessBytes off w d v) :: rest }) ∧
    (∀ off : Byte, off.toNat < 0x80 → s.platform.inEng (s.platform.muxBase + off.setWidth 32) = false →
      step { s with agenda := .bus (s.platform.muxBase + off.setWidth 32) w d v :: rest } =
        step { s with agenda := .host .mux8 (muxAccessBytes off w d v) :: rest })

/-- R80, R95: a host store of 1, 2 or 4 bytes to an address where the bus has memory stores exactly those bytes,
lowest first, and a host load returns the bytes stored there; nothing else changes. The spec gives the bus's answer
for engine accesses only (R83): that it is also the host's, and that an unaligned host access runs byte by byte
modulo 2^32, is DEDUCED (assumption 10); that the answer at the first byte is the whole access's, also where it runs
into a register window, is the model's choice (assumption 25). -/
def Obligations.HostReachesMemory : Prop :=
  ∀ (s : State) (rest : List Event) (a : Addr) (w : Width) (v : Word),
    (busResp s.platform a w .write = .memory → s.mem.wf = true →
      ∃ t, step { s with agenda := .bus a w .write v :: rest } = .next t ∧
        t.mem.read a w.bytes = (bytes32 v).take w.bytes ∧
        (∀ k, (∀ i < w.bytes, k ≠ (a + BitVec.ofNat 32 i).toNat) → t.mem.readByte k = s.mem.readByte k) ∧
        t = { s with agenda := rest, mem := t.mem, hostReply := .ack }) ∧
    (busResp s.platform a w .read = .memory →
      step { s with agenda := .bus a w .read v :: rest } =
        .next { s with agenda := rest, hostReply := .value (le32 (s.mem.read a w.bytes)) })

/-! ### Commands (R250 to R259) -/

/-- R251, R252: `CEEI` clears and `SEEI` sets `EEI[n]` of the selection, and nothing else changes; `ERR` stays. With
`ERR[n] = 1`, `SEEI` raises the error interrupt at once. -/
def Obligations.CeeiSeeiWriteErrorInterruptEnable : Prop :=
  (∀ (s : State) (ch : Chan), ∃ t, exec (.ceei ch) s = .next t ∧
    (∀ n : Chan, t.eei.getLsbD n.toNat = if n = ch then false else s.eei.getLsbD n.toNat) ∧
    t = { s with eei := t.eei, hostReply := .ack } ∧ sameBytes s t) ∧
  (∀ s : State, ∃ t, exec .ceeiAll s = .next t ∧ t.eei = 0 ∧
    t = { s with eei := t.eei, hostReply := .ack } ∧ sameBytes s t) ∧
  decode .cmd8 [0x05, 0x18] = .ok (.ceei 5) ∧ decode .cmd8 [0x40, 0x18] = .ok .ceeiAll ∧
  (∀ (s : State) (ch : Chan), ∃ t, exec (.seei ch) s = .next t ∧
    (∀ n : Chan, t.eei.getLsbD n.toNat = if n = ch then true else s.eei.getLsbD n.toNat) ∧
    (s.err.getLsbD ch.toNat = true → irqErr t = true) ∧
    t = { s with eei := t.eei, hostReply := .ack } ∧ sameBytes s t) ∧
  (∀ s : State, ∃ t, exec .seeiAll s = .next t ∧ (∀ n : Chan, t.eei.getLsbD n.toNat = true) ∧
    (s.err ≠ 0 → irqErr t = true) ∧
    t = { s with eei := t.eei, hostReply := .ack } ∧ sameBytes s t) ∧
  decode .cmd8 [0x05, 0x19] = .ok (.seei 5)

/-- R253, R254: `CERQ` clears and `SERQ` sets `ERQ[n]` of the selection, and nothing else changes: a bound channel
leaves `Enabled` for `Bound`, a minor loop in progress and a pending `START` stay; `Bound` becomes `Enabled`, or
`Triggered` when the router's output is already 1. -/
def Obligations.CerqSerqWriteRequestEnable : Prop :=
  (∀ (s : State) (ch : Chan), ∃ t, exec (.cerq ch) s = .next t ∧
    (∀ n : Chan, t.erq.getLsbD n.toNat = if n = ch then false else s.erq.getLsbD n.toNat) ∧
    (chstate s ch = .enabled → (s.cfg ch).enbl = true → chstate t ch = .bound) ∧
    t = { s with erq := t.erq, hostReply := .ack } ∧ sameBytes s t) ∧
  (∀ s : State, ∃ t, exec .cerqAll s = .next t ∧ t.erq = 0 ∧
    t = { s with erq := t.erq, hostReply := .ack } ∧ sameBytes s t) ∧
  decode .cmd8 [0x05, 0x1A] = .ok (.cerq 5) ∧
  (∀ (s : State) (ch : Chan), ∃ t, exec (.serq ch) s = .next t ∧
    (∀ n : Chan, t.erq.getLsbD n.toNat = if n = ch then true else s.erq.getLsbD n.toNat) ∧
    (chstate s ch = .bound → chstate t ch = if rout s ch then .triggered else .enabled) ∧
    t = { s with erq := t.erq, hostReply := .ack } ∧ sameBytes s t) ∧
  (∀ s : State, ∃ t, exec .serqAll s = .next t ∧ (∀ n : Chan, t.erq.getLsbD n.toNat = true) ∧
    t = { s with erq := t.erq, hostReply := .ack } ∧ sameBytes s t) ∧
  decode .cmd8 [0x05, 0x1B] = .ok (.serq 5) ∧ decode .cmd8 [0x40, 0x1B] = .ok .serqAll

/-- R255, R250: `CDNE` clears `DONE` of the selected slots, executing or not, and no other bit of any slot. -/
def Obligations.CdneClearsDone : Prop :=
  (∀ (s : State) (ch : Chan), ∃ t, exec (.cdne ch) s = .next t ∧
    (∀ n, t.slot n = { s.slot n with csr := (t.slot n).csr }) ∧
    (∀ n i, (t.slot n).csr.getLsbD i = if n = ch ∧ i = 7 then false else (s.slot n).csr.getLsbD i) ∧
    t = { s with tcd := t.tcd, hostReply := .ack } ∧ sameBytes s t) ∧
  (∀ s : State, ∃ t, exec .cdneAll s = .next t ∧
    (∀ n, t.slot n = { s.slot n with csr := (t.slot n).csr }) ∧
    (∀ n i, (t.slot n).csr.getLsbD i = if i = 7 then false else (s.slot n).csr.getLsbD i) ∧
    t = { s with tcd := t.tcd, hostReply := .ack } ∧ sameBytes s t)

/-- R256, R250: `SSRT` sets `START` of the selected slots, executing or not, and no other bit of any slot; a
channel that does not execute then requests service whatever `ERQ` and the router hold. -/
def Obligations.SsrtSetsStart : Prop :=
  (∀ (s : State) (ch : Chan), ∃ t, exec (.ssrt ch) s = .next t ∧
    (∀ n, t.slot n = { s.slot n with csr := (t.slot n).csr }) ∧
    (∀ n i, (t.slot n).csr.getLsbD i = if n = ch ∧ i = 0 then true else (s.slot n).csr.getLsbD i) ∧
    (csrActive (s.slot ch) = false → req t ch = true) ∧
    t = { s with tcd := t.tcd, hostReply := .ack } ∧ sameBytes s t) ∧
  (∀ s : State, ∃ t, exec .ssrtAll s = .next t ∧
    (∀ n, t.slot n = { s.slot n with csr := (t.slot n).csr }) ∧
    (∀ n i, (t.slot n).csr.getLsbD i = if i = 0 then true else (s.slot n).csr.getLsbD i) ∧
    (∀ n, csrActive (s.slot n) = false → req t n = true) ∧
    t = { s with tcd := t.tcd, hostReply := .ack } ∧ sameBytes s t)

/-- R257, R258: `CERR` clears `ERR[n]` and `CINT` clears `INT[n]` of the selection, and nothing else changes:
`ES[16:0]` keeps its record; with the last error latch `ES.VLD` and the error interrupt fall; with `INT[n]` the
channel's interrupt output falls. -/
def Obligations.CerrCintClearLatches : Prop :=
  (∀ (s : State) (ch : Chan), ∃ t, exec (.cerr ch) s = .next t ∧
    (∀ n : Chan, t.err.getLsbD n.toNat = if n = ch then false else s.err.getLsbD n.toNat) ∧
    ((∀ n : Chan, n ≠ ch → s.err.getLsbD n.toNat = false) → esVld t = false ∧ irqErr t = false) ∧
    t = { s with err := t.err, hostReply := .ack } ∧ sameBytes s t) ∧
  (∀ s : State, ∃ t, exec .cerrAll s = .next t ∧ t.err = 0 ∧ esVld t = false ∧ irqErr t = false ∧
    t = { s with err := t.err, hostReply := .ack } ∧ sameBytes s t) ∧
  decode .cmd8 [0x05, 0x1E] = .ok (.cerr 5) ∧ decode .cmd8 [0x40, 0x1E] = .ok .cerrAll ∧
  (∀ (s : State) (ch : Chan), ∃ t, exec (.cint ch) s = .next t ∧
    (∀ n : Chan, t.int.getLsbD n.toNat = if n = ch then false else s.int.getLsbD n.toNat) ∧
    irqCh t ch = false ∧
    t = { s with int := t.int, hostReply := .ack } ∧ sameBytes s t) ∧
  (∀ s : State, ∃ t, exec .cintAll s = .next t ∧ t.int = 0 ∧ (∀ n, irqCh t n = false) ∧
    t = { s with int := t.int, hostReply := .ack } ∧ sameBytes s t) ∧
  decode .cmd8 [0x05, 0x1F] = .ok (.cint 5)

/-- R259: a command byte with bit 7 set changes nothing, at any of the eight offsets and whatever the other bits
hold (the host's store is taken). -/
def Obligations.NopCommandsChangeNothing : Prop :=
  ∀ (s : State) (k : BitVec 3) (b : Byte), b.getLsbD 7 = true →
    ∃ i, decode .cmd8 [b, 0x18 + k.setWidth 8] = .ok i ∧
      i ∈ [Instr.ceeiNop, .seeiNop, .cerqNop, .serqNop, .cdneNop, .ssrtNop, .cerrNop, .cintNop] ∧
      (∀ j ∈ [Instr.ceeiNop, .seeiNop, .cerqNop, .serqNop, .cdneNop, .ssrtNop, .cerrNop, .cintNop],
        exec j s = .next { s with hostReply := .ack })

/-! ### Engine and router registers (R233 to R243) -/

/-- R233: a write of `CR` takes the group priorities, and the cancel bits only while a channel executes or is
suspended; equal group priorities make the next check of any channel report `GPE`; a read shows the four bits at
their places and 0 elsewhere. -/
def Obligations.ControlRegisterAccess : Prop :=
  selects 0x0000 .four .cr ∧
  (∀ (s : State) (v : Word), ∃ t, exec (.cr (.write v)) s = .next t ∧
    t.cr.grp1pri = v.getLsbD 10 ∧ t.cr.grp0pri = v.getLsbD 8 ∧
    (s.cur ≠ none ∨ s.susp ≠ none → t.cr.cx = v.getLsbD 17 ∧ t.cr.ecx = v.getLsbD 16) ∧
    (s.cur = none → s.susp = none → t.cr.cx = false ∧ t.cr.ecx = false) ∧
    (v.getLsbD 10 = v.getLsbD 8 → ∀ c, ErrKind.gpe ∈ confcheck t c) ∧
    t = { s with cr := t.cr, hostReply := .ack } ∧ sameBytes s t) ∧
  (∀ s : State, ∃ w, readsAs (.cr .read) s w ∧
    ∀ i, w.getLsbD i = if i = 17 then s.cr.cx else if i = 16 then s.cr.ecx else if i = 10 then s.cr.grp1pri
      else if i = 8 then s.cr.grp0pri else false)

/-- R234, R290: `ES` reads as the stored record with bit 13 zero and with `VLD = (ERR != 0)`; a write is ignored. -/
def Obligations.ErrorStatusAccess : Prop :=
  selects 0x0004 .four .es ∧
  (∀ s : State, ∃ w, readsAs (.es .read) s w ∧
    ∀ i, w.getLsbD i = if i = 31 then s.err != 0 else if i < 17 ∧ i ≠ 13 then s.es.getLsbD i else false) ∧
  (∀ (s : State) (v : Word), exec (.es (.write v)) s = .next { s with hostReply := .ack })

/-- R235, R236: a write of `ERQ` or `EEI` replaces all 32 bits of that register and nothing else, and a read returns
them; an error already latched raises the error interrupt when its enable is written 1. -/
def Obligations.EnableRegistersAccess : Prop :=
  selects 0x000C .four .erq ∧ selects 0x0014 .four .eei ∧
  (∀ (s : State) (v : Word), ∃ t, exec (.erq (.write v)) s = .next t ∧ t.erq = v ∧
    t = { s with erq := t.erq, hostReply := .ack } ∧ sameBytes s t) ∧
  (∀ (s : State) (v : Word), ∃ t, exec (.eei (.write v)) s = .next t ∧ t.eei = v ∧
    (∀ n : Chan, v.getLsbD n.toNat = true → s.err.getLsbD n.toNat = true → irqErr t = true) ∧
    t = { s with eei := t.eei, hostReply := .ack } ∧ sameBytes s t) ∧
  (∀ s : State, readsAs (.erq .read) s s.erq ∧ readsAs (.eei .read) s s.eei)

/-- R237, R238: a write of `INT` or `ERR` clears the latches whose bit is 1 and leaves the others, `ES` stays, and a
read returns the latches. -/
def Obligations.LatchRegistersWriteOneToClear : Prop :=
  selects 0x0024 .four .int ∧ selects 0x002C .four .err ∧
  (∀ (s : State) (v : Word), ∃ t, exec (.int (.write v)) s = .next t ∧
    (∀ n : Chan, t.int.getLsbD n.toNat = if v.getLsbD n.toNat then false else s.int.getLsbD n.toNat) ∧
    t = { s with int := t.int, hostReply := .ack } ∧ sameBytes s t) ∧
  (∀ (s : State) (v : Word), ∃ t, exec (.err (.write v)) s = .next t ∧
    (∀ n : Chan, t.err.getLsbD n.toNat = if v.getLsbD n.toNat then false else s.err.getLsbD n.toNat) ∧
    (esVld t = true ↔ ∃ n : Chan, s.err.getLsbD n.toNat = true ∧ v.getLsbD n.toNat = false) ∧
    t = { s with err := t.err, hostReply := .ack } ∧ sameBytes s t) ∧
  (∀ s : State, readsAs (.int .read) s s.int ∧ readsAs (.err .read) s s.err)

/-- R239, R28: bit `n` of `HRS` reads as `ERQ[n] and rout(n)`; a write is ignored. -/
def Obligations.HardwareRequestStatusAccess : Prop :=
  selects 0x0034 .four .hrs ∧
  (∀ s : State, ∃ w, readsAs (.hrs .read) s w ∧
    ∀ n : Chan, w.getLsbD n.toNat = (s.erq.getLsbD n.toNat && rout s n)) ∧
  (∀ (s : State) (v : Word), exec (.hrs (.write v)) s = .next { s with hostReply := .ack })

/-- R240: a write of `DCHPRI[n]` takes bits 7, 6 and 3:0 and ignores 5:4, for that channel only; a read shows the
group priority of `CR` in bit 4 and 0 in bit 5. A priority that is now double in its group makes the next
check of any channel report `CPE`. -/
def Obligations.PriorityRegisterAccess : Prop :=
  (∀ n : Chan, selects (0x0100 + (n ^^^ 3).setWidth 16) .one (.dchpri n)) ∧
  (∀ (s : State) (n : Chan) (v : Byte), ∃ t, exec (.dchpri n (.write v)) s = .next t ∧
    t.pri n = { ecp := v.getLsbD 7, dpa := v.getLsbD 6, chpri := v.extractLsb' 0 4 } ∧
    (∀ m, m ≠ n → t.pri m = s.pri m) ∧
    (∀ m c, m ≠ n → m.toNat / 16 = n.toNat / 16 → (s.pri m).chpri = v.extractLsb' 0 4 → ErrKind.cpe ∈ confcheck t c) ∧
    t = { s with dchpri := t.dchpri, hostReply := .ack } ∧ sameBytes s t) ∧
  (∀ (s : State) (n : Chan), ∃ w, readsAs (.dchpri n .read) s w ∧
    ∀ i, w.getLsbD i = if i = 7 then (s.pri n).ecp else if i = 6 then (s.pri n).dpa
      else if i = 4 then (if 16 ≤ n.toNat then s.cr.grp1pri else s.cr.grp0pri)
      else if i < 4 then (s.pri n).chpri.getLsbD i else false)

/-- R241: a store to any of the eleven fields is refused while the channel executes; else it replaces that field of
that slot only, unchecked. Of `CSR` it writes every bit but 13, which stays 0, and `ACTIVE`, which stays. -/
def Obligations.DescriptorFieldWrite : Prop :=
  ∀ (s : State) (n : Chan) (v : Word) (h : Half),
    (let a : Half := 0x1000 + 0x20 * n.setWidth 16;
      selects a .four (.tcdSaddr n) ∧ selects (a + 0x04) .two (.tcdSoff n) ∧ selects (a + 0x06) .two (.tcdAttr n) ∧
      selects (a + 0x08) .four (.tcdNbytes n) ∧ selects (a + 0x0C) .four (.tcdSlast n) ∧
      selects (a + 0x10) .four (.tcdDaddr n) ∧ selects (a + 0x14) .two (.tcdDoff n) ∧
      selects (a + 0x16) .two (.tcdCiter n) ∧ selects (a + 0x18) .four (.tcdDlastSga n) ∧
      selects (a + 0x1C) .two (.tcdCsr n) ∧ selects (a + 0x1E) .two (.tcdBiter n)) ∧
    (csrActive (s.slot n) = true →
      ∀ i ∈ [Instr.tcdSaddr n (.write v), .tcdSoff n (.write h), .tcdAttr n (.write h), .tcdNbytes n (.write v),
          .tcdSlast n (.write v), .tcdDaddr n (.write v), .tcdDoff n (.write h), .tcdCiter n (.write h),
          .tcdDlastSga n (.write v), .tcdCsr n (.write h), .tcdBiter n (.write h)],
        exec i s = .refused (.slotBusy n)) ∧
    (csrActive (s.slot n) = false →
      (∃ t, exec (.tcdSaddr n (.write v)) s = .next t ∧ wroteSlot s t n { s.slot n with saddr := v }) ∧
      (∃ t, exec (.tcdSoff n (.write h)) s = .next t ∧ wroteSlot s t n { s.slot n with soff := h }) ∧
      (∃ t, exec (.tcdAttr n (.write h)) s = .next t ∧ wroteSlot s t n { s.slot n with attr := h }) ∧
      (∃ t, exec (.tcdNbytes n (.write v)) s = .next t ∧ wroteSlot s t n { s.slot n with nbytes := v }) ∧
      (∃ t, exec (.tcdSlast n (.write v)) s = .next t ∧ wroteSlot s t n { s.slot n with slast := v }) ∧
      (∃ t, exec (.tcdDaddr n (.write v)) s = .next t ∧ wroteSlot s t n { s.slot n with daddr := v }) ∧
      (∃ t, exec (.tcdDoff n (.write h)) s = .next t ∧ wroteSlot s t n { s.slot n with doff := h }) ∧
      (∃ t, exec (.tcdCiter n (.write h)) s = .next t ∧ wroteSlot s t n { s.slot n with citer := h }) ∧
      (∃ t, exec (.tcdDlastSga n (.write v)) s = .next t ∧ wroteSlot s t n { s.slot n with dlastSga := v }) ∧
      (∃ t, exec (.tcdBiter n (.write h)) s = .next t ∧ wroteSlot s t n { s.slot n with biter := h }) ∧
      (∃ t c, exec (.tcdCsr n (.write h)) s = .next t ∧ wroteSlot s t n { s.slot n with csr := c } ∧
        ∀ i, c.getLsbD i = if i = 13 then false else if i = 6 then (s.slot n).csr.getLsbD 6 else h.getLsbD i))

/-- R242: a load of any of the eleven fields returns it as it stands in the slot, at any time, and changes
nothing. -/
def Obligations.DescriptorFieldRead : Prop :=
  ∀ (s : State) (n : Chan),
    readsAs (.tcdSaddr n .read) s (s.slot n).saddr ∧ readsAs (.tcdSoff n .read) s ((s.slot n).soff.setWidth 32) ∧
    readsAs (.tcdAttr n .read) s ((s.slot n).attr.setWidth 32) ∧ readsAs (.tcdNbytes n .read) s (s.slot n).nbytes ∧
    readsAs (.tcdSlast n .read) s (s.slot n).slast ∧ readsAs (.tcdDaddr n .read) s (s.slot n).daddr ∧
    readsAs (.tcdDoff n .read) s ((s.slot n).doff.setWidth 32) ∧
    readsAs (.tcdCiter n .read) s ((s.slot n).citer.setWidth 32) ∧
    readsAs (.tcdDlastSga n .read) s (s.slot n).dlastSga ∧ readsAs (.tcdCsr n .read) s ((s.slot n).csr.setWidth 32) ∧
    readsAs (.tcdBiter n .read) s ((s.slot n).biter.setWidth 32)

/-- R243: a write of `CHCFG[n]` takes bits 31, 29 and 6:0, bit 30 on channels 0 to 3 only, and clears that channel's
trigger latch; a read shows them at their places and 0 elsewhere. Other channels' registers and latches stay. -/
def Obligations.RouterRegisterAccess : Prop :=
  (∀ (n : Chan) (v : Word), decode .mux8 (muxAccessBytes (4 * n.setWidth 8) .four .read v) = .ok (.chcfg n .read) ∧
    decode .mux8 (muxAccessBytes (4 * n.setWidth 8) .four .write v) = .ok (.chcfg n (.write v))) ∧
  (∀ (s : State) (n : Chan) (v : Word), ∃ t, exec (.chcfg n (.write v)) s = .next t ∧
    t.cfg n = { enbl := v.getLsbD 31, trig := decide (n.toNat < 4) && v.getLsbD 30, aOn := v.getLsbD 29,
                source := v.extractLsb' 0 7 } ∧
    (∀ m, m ≠ n → t.cfg m = s.cfg m) ∧
    (∀ m : Chan, t.trg.getLsbD m.toNat = if m = n then false else s.trg.getLsbD m.toNat) ∧
    t = { s with chcfg := t.chcfg, trg := t.trg, hostReply := .ack } ∧ sameBytes s t) ∧
  (∀ (s : State) (n : Chan), ∃ w, readsAs (.chcfg n .read) s w ∧
    ∀ i, w.getLsbD i = if i = 31 then (s.cfg n).enbl else if i = 30 then (s.cfg n).trig
      else if i = 29 then (s.cfg n).aOn else if i < 7 then (s.cfg n).source.getLsbD i else false)

/-! ### Descriptors and their words (R110 to R119, R172) -/

/-- R30, R110, R172: a descriptor put into the slot of a channel that does not execute replaces all eleven fields
and nothing else; `ACTIVE` and bit 13 of its `CSR` are dropped. While the channel executes, it and every word of a
descriptor's field are refused (R331). That these are operations of one step is the model's choice: assumption 7. -/
def Obligations.DescriptorLoad : Prop :=
  ∀ (s : State) (n : Chan) (d : Tcd),
    (csrActive (s.slot n) = true → ∀ (aw : AttrWord) (c30 : BitVec 30) (sm dm : Bool) (o : BitVec 20) (c10 : BitVec 10)
        (f : IterField) (c15 : BitVec 15) (r : Bool) (k : Chan) (c9 : BitVec 9) (cw : CsrWord) (v : Word) (l : BitVec 27),
      ∀ i ∈ [Instr.tcd n d, .attr n aw, .nbytesPlain n c30, .nbytesOff n sm dm o c10, .iterPlain n f c15,
          .iterLink n f r k c9, .csr n cw, .dlast n v, .sga n l],
        exec i s = .refused (.slotBusy n)) ∧
    (csrActive (s.slot n) = false → ∃ t c, exec (.tcd n d) s = .next t ∧ wroteSlot s t n { d with csr := c } ∧
      ∀ i, c.getLsbD i = if i = 13 ∨ i = 6 then false else d.csr.getLsbD i)

/-- R111, R112, R115 to R117: an `ATTR`, `NBYTES` or `DLAST_SGA` word put into the slot of a channel that does not
execute is decoded by the data mover as the fields of its form, and nothing else changes. That the words are
operations of their own is the model's choice: assumption 7. -/
def Obligations.AttrNbytesLinkWordsDecode : Prop :=
  ∀ (s : State) (n : Chan), csrActive (s.slot n) = false →
    (∀ w : AttrWord, ∃ t, exec (.attr n w) s = .next t ∧ wroteSlot s t n { s.slot n with attr := (t.slot n).attr } ∧
      ssize (t.slot n) = 2 ^ w.ssize.toNat ∧ dsize (t.slot n) = 2 ^ w.dsize.toNat ∧
      smod (t.slot n) = w.smod.toNat ∧ dmod (t.slot n) = w.dmod.toNat) ∧
    (∀ c : BitVec 30, ∃ t, exec (.nbytesPlain n c) s = .next t ∧
      wroteSlot s t n { s.slot n with nbytes := (t.slot n).nbytes } ∧
      (nbytes (t.slot n)).toNat = c.toNat ∧ smloe (t.slot n) = false ∧ dmloe (t.slot n) = false ∧ mloff (t.slot n) = 0) ∧
    (∀ (sm dm : Bool) (o : BitVec 20) (c : BitVec 10), ∃ t, exec (.nbytesOff n sm dm o c) s = .next t ∧
      wroteSlot s t n { s.slot n with nbytes := (t.slot n).nbytes } ∧ smloe (t.slot n) = sm ∧ dmloe (t.slot n) = dm ∧
      ((sm || dm) = true → (nbytes (t.slot n)).toNat = c.toNat ∧ (mloff (t.slot n)).toInt = o.toInt)) ∧
    (∀ v : Word, ∃ t, exec (.dlast n v) s = .next t ∧ wroteSlot s t n { s.slot n with dlastSga := v }) ∧
    (∀ l : BitVec 27, ∃ t v, exec (.sga n l) s = .next t ∧ wroteSlot s t n { s.slot n with dlastSga := v } ∧
      v.toNat = 32 * l.toNat)

/-- R113, R114: a `CITER`, `BITER` or `CSR` word put into the slot of a channel that does not execute is decoded by
the data mover as the fields of its form, and nothing else changes. That the words are operations of their own is
the model's choice: assumption 7. -/
def Obligations.IterCsrWordsDecode : Prop :=
  ∀ (s : State) (n : Chan), csrActive (s.slot n) = false →
    (∀ c : BitVec 15, ∃ t v, exec (.iterPlain n .citer c) s = .next t ∧ wroteSlot s t n { s.slot n with citer := v } ∧
      elink v = false ∧ (count v).toNat = c.toNat) ∧
    (∀ c : BitVec 15, ∃ t v, exec (.iterPlain n .biter c) s = .next t ∧ wroteSlot s t n { s.slot n with biter := v } ∧
      elink v = false ∧ (count v).toNat = c.toNat) ∧
    (∀ (r : Bool) (k : Chan) (c : BitVec 9), ∃ t v, exec (.iterLink n .citer r k c) s = .next t ∧
      wroteSlot s t n { s.slot n with citer := v } ∧
      elink v = true ∧ v.getLsbD 14 = r ∧ linkCh v = k ∧ (count v).toNat = c.toNat) ∧
    (∀ (r : Bool) (k : Chan) (c : BitVec 9), ∃ t v, exec (.iterLink n .biter r k c) s = .next t ∧
      wroteSlot s t n { s.slot n with biter := v } ∧
      elink v = true ∧ v.getLsbD 14 = r ∧ linkCh v = k ∧ (count v).toNat = c.toNat) ∧
    (∀ w : CsrWord, ∃ t v, exec (.csr n w) s = .next t ∧ wroteSlot s t n { s.slot n with csr := v } ∧
      csrStart (t.slot n) = w.start ∧ csrIntMajor (t.slot n) = w.intMajor ∧ csrIntHalf (t.slot n) = w.intHalf ∧
      csrDreq (t.slot n) = w.dreq ∧ csrEsg (t.slot n) = w.esg ∧ csrMajorElink (t.slot n) = w.majorElink ∧
      csrActive (t.slot n) = false ∧ csrDone (t.slot n) = w.done ∧ csrMajorLinkCh (t.slot n) = w.majorLinkCh ∧
      v.getLsbD 13 = false ∧ v.extractLsb' 14 2 = w.bwc)

/-- R118: under a modulus `m` of 1 to 31 the address stays in the aligned window of `2^m` bytes it starts in, and
inside the window it is the sum; with `m = 0` it is the sum modulo 2^32. -/
def Obligations.NextAddressCirculatesInWindow : Prop :=
  ∀ (a : Addr) (o : Word), nextAddr a o 0 = a + o ∧
    ∀ m, 0 < m → m ≤ 31 →
      (nextAddr a o m).toNat / 2 ^ m = a.toNat / 2 ^ m ∧ (nextAddr a o m).toNat % 2 ^ m = (a + o).toNat % 2 ^ m

/-- R95: in a memory of canonical form, a run of bytes reads as it was last written, and every byte outside it as
before. -/
def Obligations.MemoryReturnsLastWrite : Prop :=
  ∀ (m : Memory) (a : Addr) (bs : List Byte), m.wf = true → bs.length ≤ 2 ^ 32 →
    (m.write a bs).read a bs.length = bs ∧
    ∀ k, (∀ i < bs.length, k ≠ (a + BitVec.ofNat 32 i).toNat) → (m.write a bs).readByte k = m.readByte k

/-! ### Router, requests and arbitration (R190 to R212) -/

/-- R191: the router's output, by cases of the register. -/
def Obligations.RouterOutput : Prop :=
  ∀ (s : State) (n : Chan), rout s n = true ↔
    (s.cfg n).enbl = true ∧
    ((s.cfg n).aOn = true ∨ (s.cfg n).source ≠ 0 ∧ s.srcline.getLsbD (s.cfg n).source.toNat = true) ∧
    (n.toNat < 4 → (s.cfg n).trig = true → s.trg.getLsbD n.toNat = true)

/-- R194, R62: a pulse on a trigger input sets its channel's latch while the channel is enabled in trigger mode, and
else does nothing; no other latch and nothing else changes. R63, R190: a request line takes the level the environment
drives, and keeps it until it is driven again; no other line and nothing else changes, and a channel bound to the line
in normal mode (R192) shows the level at once. That levels and pulses are events of an agenda is the model's form of a
free input (assumptions 11 and 15). -/
def Obligations.PulseAndLineEvents : Prop :=
  (∀ (s : State) (k : BitVec 2) (rest : List Event), s.agenda = .pulse k :: rest →
    ∃ t, step s = .next t ∧
      (∀ m : Chan, t.trg.getLsbD m.toNat =
        if m = k.setWidth 5 ∧ (s.cfg m).enbl = true ∧ (s.cfg m).trig = true then true else s.trg.getLsbD m.toNat) ∧
      t = { s with agenda := rest, trg := t.trg } ∧ sameBytes s t) ∧
  (∀ (s : State) (slot : BitVec 7) (level : Bool) (rest : List Event), s.agenda = .line slot level :: rest →
    ∃ t, step s = .next t ∧
      (∀ m : BitVec 7, t.srcline.getLsbD m.toNat = if m = slot then level else s.srcline.getLsbD m.toNat) ∧
      (∀ n : Chan, s.cfg n = { enbl := true, trig := false, aOn := false, source := slot } → slot ≠ 0 →
        rout t n = level) ∧
      t = { s with agenda := rest, srcline := t.srcline } ∧ sameBytes s t)

/-- R201: priorities compare by group first and channel second, larger higher; with legal priorities no two channels
are equal; after reset channel 31 is the highest and channel 0 the lowest. -/
def Obligations.PriorityOrder : Prop :=
  (∀ (s : State) (n m : Chan), prio s n < prio s m ↔
    (groupPri s n = false ∧ groupPri s m = true) ∨
    (groupPri s n = groupPri s m ∧ (s.pri n).chpri.toNat < (s.pri m).chpri.toNat)) ∧
  (∀ (s : State) (n m : Chan), priorityErrors s = [] → prio s n = prio s m → n = m) ∧
  (∀ n : Chan, n ≠ 0 → prio State.reset 0 < prio State.reset n) ∧
  (∀ n : Chan, n ≠ 31 → prio State.reset n < prio State.reset 31)

/-- R202: with no context and some channel requesting, the step activates a requesting channel of greatest
priority (a draw among equals counts one draw). -/
def Obligations.ArbitrationActivatesHighest : Prop :=
  ∀ (s : State) (n : Chan), moverNext s → s.cur = none → s.susp = none → req s n = true →
    ∃ w s', req s w = true ∧ (∀ m, req s m = true → prio s m ≤ prio s w) ∧ (s' = s ∨ s' = s.drawn) ∧
      step s = .next (activate w s')

/-- R145, R323: with no context and no request the data mover does nothing; in particular a quiescent block, such as
the block after reset, stays as it is until the host writes to it. That an idle turn is a step that changes nothing is
the model's choice (assumption 20). -/
def Obligations.IdleDataMoverChangesNothing : Prop :=
  (∀ s : State, moverNext s → s.cur = none → s.susp = none → (∀ n, req s n = false) → step s = .next s) ∧
  (∀ s : State, moverNext s → quiescent s → step s = .next s) ∧
  step State.reset = .next State.reset

/-- R141: the flags of the configuration check, each exactly when its condition holds. -/
def Obligations.ConfigurationCheckFlags : Prop :=
  ∀ (s : State) (c : Chan),
    let t := s.slot c
    (ErrKind.sae ∈ confcheck s c ↔ 5 < ssizeCode t ∨ t.saddr.toNat % ssize t ≠ 0) ∧
    (ErrKind.soe ∈ confcheck s c ↔ ssizeCode t ≤ 5 ∧ t.soff.toNat % ssize t ≠ 0) ∧
    (ErrKind.dae ∈ confcheck s c ↔ 5 < dsizeCode t ∨ t.daddr.toNat % dsize t ≠ 0) ∧
    (ErrKind.doe ∈ confcheck s c ↔ dsizeCode t ≤ 5 ∧ t.doff.toNat % dsize t ≠ 0) ∧
    (ErrKind.nce ∈ confcheck s c ↔ nbytes t = 0 ∨ (ssizeCode t ≤ 5 ∧ (nbytes t).toNat % ssize t ≠ 0) ∨
      (dsizeCode t ≤ 5 ∧ (nbytes t).toNat % dsize t ≠ 0) ∨ count t.citer = 0 ∨
      t.citer.getLsbD 15 ≠ t.biter.getLsbD 15) ∧
    (ErrKind.sge ∈ confcheck s c ↔ csrEsg t = true ∧ t.dlastSga.toNat % 32 ≠ 0) ∧
    (ErrKind.gpe ∈ confcheck s c ↔ s.cr.grp0pri = s.cr.grp1pri) ∧
    (ErrKind.cpe ∈ confcheck s c ↔
      ∃ i j : Chan, i ≠ j ∧ i.toNat / 16 = j.toNat / 16 ∧ (s.pri i).chpri = (s.pri j).chpri) ∧
    ErrKind.dbe ∉ confcheck s c ∧ ErrKind.sbe ∉ confcheck s c ∧ ErrKind.ecx ∉ confcheck s c

/-- R140: activation of a channel that passes the check clears `START` and `DONE`, sets `ACTIVE` and the
chain-in-progress bit, clears its trigger latch, and starts a context at the slot's addresses with the whole
minor loop left; nothing else changes. -/
def Obligations.ActivationStartsMinorLoop : Prop :=
  ∀ (s : State) (c : Chan), confcheck s c = [] →
    let t := activate c s
    t.cur = some { ch := c, rem := nbytes (s.slot c), sa := (s.slot c).saddr, da := (s.slot c).daddr, fifo := [],
                   wr := false, part := .idle } ∧
    t.slot c = { s.slot c with csr := (t.slot c).csr } ∧
    (∀ i, (t.slot c).csr.getLsbD i = if i = 0 ∨ i = 7 then false else if i = 6 then true else (s.slot c).csr.getLsbD i) ∧
    (∀ m, m ≠ c → t.slot m = s.slot m) ∧
    (∀ m : Chan, t.inprog.getLsbD m.toNat = if m = c then true else s.inprog.getLsbD m.toNat) ∧
    (∀ m : Chan, t.trg.getLsbD m.toNat = if m = c then false else s.trg.getLsbD m.toNat) ∧
    t = { s with cur := t.cur, tcd := t.tcd, inprog := t.inprog, trg := t.trg } ∧ sameBytes s t

/-- R140, R281, R291: activation of a channel that fails the check records every flag and the channel, latches
`ERR[c]`, leaves `START`, `DONE` and `ACTIVE` 0 and every other bit of the slot as it was, drops a pending cancel,
and makes no memory access: no context starts and nothing else changes. -/
def Obligations.ActivationFailureCapturesError : Prop :=
  ∀ (s : State) (c : Chan), confcheck s c ≠ [] →
    let t := activate c s
    t.cur = none ∧ t.es = errRecord c (confcheck s c) ∧
    (∀ m : Chan, t.err.getLsbD m.toNat = if m = c then true else s.err.getLsbD m.toNat) ∧
    (∀ m : Chan, t.inprog.getLsbD m.toNat = if m = c then false else s.inprog.getLsbD m.toNat) ∧
    t.slot c = { s.slot c with csr := (t.slot c).csr } ∧
    (∀ i, (t.slot c).csr.getLsbD i = if i = 0 ∨ i = 7 ∨ i = 6 then false else (s.slot c).csr.getLsbD i) ∧
    (∀ m, m ≠ c → t.slot m = s.slot m) ∧
    (∀ m : Chan, t.trg.getLsbD m.toNat = if m = c then false else s.trg.getLsbD m.toNat) ∧
    t.cr = { s.cr with cx := false, ecx := false } ∧ t.trace = s.trace ∧ chstate t c = .faulted ∧
    t = { s with cur := t.cur, es := t.es, err := t.err, inprog := t.inprog, tcd := t.tcd, cr := t.cr, trg := t.trg } ∧
    sameBytes s t

/-- R288: error capture replaces the record by the kinds and the channel, latches `ERR[c]`, clears `ACTIVE` and the
chain-in-progress bit of the channel and both cancel bits, and leaves no channel executing; nothing else changes,
and the suspended context is not touched. -/
def Obligations.ErrorCapture : Prop :=
  ∀ (s : State) (c : Chan) (kinds : List ErrKind), kinds ≠ [] →
    let t := raiseChannelError c kinds s
    (∀ i, i < 17 → ¬ (8 ≤ i ∧ i ≤ 12) → (t.es.getLsbD i = true ↔ ∃ k ∈ kinds, k.code = i)) ∧
    esErrChn t = c ∧
    (∀ m : Chan, t.err.getLsbD m.toNat = if m = c then true else s.err.getLsbD m.toNat) ∧
    (∀ m : Chan, t.inprog.getLsbD m.toNat = if m = c then false else s.inprog.getLsbD m.toNat) ∧
    t.slot c = { s.slot c with csr := (t.slot c).csr } ∧
    (∀ i, (t.slot c).csr.getLsbD i = if i = 6 then false else (s.slot c).csr.getLsbD i) ∧
    (∀ m, m ≠ c → t.slot m = s.slot m) ∧
    t.cr = { s.cr with cx := false, ecx := false } ∧ t.cur = none ∧ chstate t c = .faulted ∧
    t = { s with es := t.es, err := t.err, inprog := t.inprog, tcd := t.tcd, cr := t.cr, cur := none } ∧ sameBytes s t

/-! ### Data movement (R150 to R153, R85 to R87) -/

/-- R151, R86: the step of a channel that reads makes one bus read at the place the present element has come to, of
the element's size or 4 bytes of a wide one. From memory it takes the bytes stored there; the last part completes
the element, which joins the queue, and the address advances; with a whole sequence queued the context turns to
writing. From a device it takes some bytes (a free value) and goes on in the same way. A refused read captures `SBE`;
an access to the block's own surfaces is refused (R89). -/
def Obligations.SourceElementRead : Prop :=
  ∀ (s : State) (x : Ctx), moverNext s → s.cur = some x → x.wr = false → x.rem ≠ 0 → ssizeCode (s.slot x.ch) ≤ 5 →
    (atBoundary x = false ∨ preemptors s x.ch = []) →
    let t := s.slot x.ch
    let w := partWidth (ssize t)
    let a := x.sa + BitVec.ofNat 32 x.part.got.length
    let after := fun g : List Byte =>
      if g.length < ssize t then { x with part := .reading g }
      else { x with
        fifo := x.fifo ++ g
        sa := nextAddr x.sa (t.soff.signExtend 32) (smod t)
        wr := decide (x.fifo.length + g.length = max (ssize t) (dsize t))
        part := .idle }
    w.bytes = min (ssize t) 4 ∧
    (busResp s.platform a w .read = .memory →
      step s = .next { s with
        trace := ⟨.read, a, w, s.mem.read a w.bytes, true⟩ :: s.trace
        cur := some (after (x.part.got ++ s.mem.read a w.bytes)) }) ∧
    (busResp s.platform a w .read = .device → ∃ b, b.length = w.bytes ∧
      step s = .next { s with
        draws := s.draws + 1
        trace := ⟨.read, a, w, b, true⟩ :: s.trace
        cur := some (after (x.part.got ++ b)) }) ∧
    (busResp s.platform a w .read = .error →
      step s = .next (raiseChannelError x.ch [.sbe] { s with trace := ⟨.read, a, w, [], false⟩ :: s.trace })) ∧
    (busResp s.platform a w .read = .self → step s = .refused (.selfAccess a))

/-- R152, R87: the step of a channel that writes makes one bus write of the queue's next bytes, at the place the
present element has come to. To memory it stores exactly those bytes there; the last part completes the element,
which leaves the queue, and the address advances; with the queue empty the context turns to reading with one
sequence less to move. A device takes the bytes and memory stays. A refused write captures `DBE` and stores nothing;
an access to the block's own surfaces is refused (R89). -/
def Obligations.DestinationElementWritten : Prop :=
  ∀ (s : State) (x : Ctx), moverNext s → s.cur = some x → x.wr = true → dsizeCode (s.slot x.ch) ≤ 5 →
    s.mem.wf = true →
    let t := s.slot x.ch
    let w := partWidth (dsize t)
    let a := x.da + BitVec.ofNat 32 x.part.put
    let b := ((x.fifo.take (dsize t)).drop x.part.put).take w.bytes
    let next :=
      if x.part.put + w.bytes < dsize t then { x with part := .writing (x.part.put + w.bytes) }
      else if (x.fifo.drop (dsize t)).isEmpty then { x with
        fifo := []
        da := nextAddr x.da (t.doff.signExtend 32) (dmod t)
        wr := false
        rem := x.rem - BitVec.ofNat 32 (max (ssize t) (dsize t))
        part := .idle }
      else { x with
        fifo := x.fifo.drop (dsize t)
        da := nextAddr x.da (t.doff.signExtend 32) (dmod t)
        part := .idle }
    w.bytes = min (dsize t) 4 ∧
    (busResp s.platform a w .write = .memory → ∃ u, step s = .next u ∧
      (u.mem.read a b.length = b ∧
        ∀ k, (∀ i < b.length, k ≠ (a + BitVec.ofNat 32 i).toNat) → u.mem.readByte k = s.mem.readByte k) ∧
      u = { s with mem := u.mem, trace := ⟨.write, a, w, b, true⟩ :: s.trace, cur := some next }) ∧
    (busResp s.platform a w .write = .device →
      step s = .next { s with trace := ⟨.write, a, w, b, true⟩ :: s.trace, cur := some next }) ∧
    (busResp s.platform a w .write = .error →
      step s = .next (raiseChannelError x.ch [.dbe] { s with trace := ⟨.write, a, w, b, false⟩ :: s.trace })) ∧
    (busResp s.platform a w .write = .self → step s = .refused (.selfAccess a))

/-- R181: for elements of 1, 2 or 4 bytes, with equal sizes, offsets equal to the size, no modulus, both ends in
memory, ranges that do not overlap and no preemption, a minor loop of `k` elements copies its bytes in `2k` steps
and leaves every other byte (elements of 8, 16 and 32 bytes, and channels that may be preempted, are left out). -/
def Obligations.MinorLoopCopiesMemory : Prop :=
  ∀ (s : State) (x : Ctx) (k : Nat), moverNext s → s.mem.wf = true → s.cur = some x → (s.pri x.ch).ecp = false →
    x.wr = false → x.fifo = [] → x.part = .idle →
    let t := s.slot x.ch
    let z := ssize t
    ssizeCode t ≤ 2 → dsizeCode t = ssizeCode t → t.soff.toNat = z → t.doff.toNat = z → smod t = 0 → dmod t = 0 →
    x.rem.toNat = z * k →
    (∀ i < k, busResp s.platform (x.sa + BitVec.ofNat 32 (z * i)) (partWidth z) .read = .memory ∧
      busResp s.platform (x.da + BitVec.ofNat 32 (z * i)) (partWidth z) .write = .memory) →
    (∀ i < z * k, ∀ j < z * k, x.sa + BitVec.ofNat 32 i ≠ x.da + BitVec.ofNat 32 j) →
    ∃ u, Host.Core.run Sys2Proof.core (2 * k) s = .next u ∧
      (∀ i < z * k, u.mem.readByte (x.da + BitVec.ofNat 32 i).toNat = s.mem.readByte (x.sa + BitVec.ofNat 32 i).toNat) ∧
      (∀ a, (∀ i < z * k, a ≠ (x.da + BitVec.ofNat 32 i).toNat) → u.mem.readByte a = s.mem.readByte a) ∧
      ∃ y, u.cur = some y ∧ y.rem = 0 ∧ y.wr = false

/-! ### Completion, chaining, cancel (R160 to R175, R265 to R269) -/

/-- R161 to R163, R113: a minor loop that is not the last of its major loop, with no cancel pending, writes back the
addresses (with the minor-loop offset where enabled) and the count less one, with every bit above the count's field
kept (from a count of 0, which the check never lets run, nothing is said of the new count), clears `ACTIVE`, sets `INT[c]` at the
half-way count when `INTHALF = 1`, sets `START` of `LINKCH` when `ELINK = 1`, and retires the channel. -/
def Obligations.MinorLoopCompletion : Prop :=
  ∀ (s : State) (x : Ctx), moverNext s → s.cur = some x → x.wr = false → x.rem = 0 → s.cr.cx = false → s.cr.ecx = false →
    let o := s.slot x.ch
    count o.citer - 1 ≠ 0 →
    ∃ t, step s = .next t ∧
      t.slot x.ch = { o with
        saddr := x.sa + (if smloe o then mloff o else 0)
        daddr := x.da + (if dmloe o then mloff o else 0)
        citer := setCount o.citer (count o.citer - 1)
        csr := (t.slot x.ch).csr } ∧
      (count o.citer ≠ 0 → (count (t.slot x.ch).citer).toNat + 1 = (count o.citer).toNat) ∧
      (∀ i, (if elink o.citer then 9 else 15) ≤ i → (t.slot x.ch).citer.getLsbD i = o.citer.getLsbD i) ∧
      (∀ m, m ≠ x.ch → t.slot m = { s.slot m with csr := (t.slot m).csr }) ∧
      (∀ m i, (t.slot m).csr.getLsbD i =
        if i = 0 ∧ elink o.citer = true ∧ m = linkCh o.citer then true
        else if i = 6 ∧ m = x.ch then false else (s.slot m).csr.getLsbD i) ∧
      (∀ m : Chan, t.int.getLsbD m.toNat =
        if m = x.ch ∧ csrIntHalf o = true ∧ count o.citer - 1 = count o.biter >>> 1 then true else s.int.getLsbD m.toNat) ∧
      t = { s with tcd := t.tcd, int := t.int, cur := none } ∧ sameBytes s t

/-- R170, R171, R174, R175: the last minor loop of a major loop with no link to a next descriptor and no cancel
pending applies the final adjustments, reloads the count, clears `ACTIVE`, sets `DONE`, sets `INT[c]` when
`INTMAJOR = 1`, clears `ERQ[c]` when `DREQ = 1`, sets `START` of `MAJORLINKCH` when `MAJORELINK = 1`, and ends the
chain: a channel with no error latched is then `Done` (R220, R221). -/
def Obligations.MajorLoopCompletion : Prop :=
  ∀ (s : State) (x : Ctx), moverNext s → s.cur = some x → x.wr = false → x.rem = 0 → s.cr.cx = false → s.cr.ecx = false →
    let o := s.slot x.ch
    count o.citer - 1 = 0 → csrEsg o = false →
    ∃ t, step s = .next t ∧
      t.slot x.ch = { o with
        saddr := x.sa + o.slast
        daddr := x.da + o.dlastSga
        citer := o.biter
        csr := (t.slot x.ch).csr } ∧
      (∀ m, m ≠ x.ch → t.slot m = { s.slot m with csr := (t.slot m).csr }) ∧
      (∀ m i, (t.slot m).csr.getLsbD i =
        if i = 0 ∧ csrMajorElink o = true ∧ m = csrMajorLinkCh o then true
        else if i = 6 ∧ m = x.ch then false else if i = 7 ∧ m = x.ch then true else (s.slot m).csr.getLsbD i) ∧
      (∀ m : Chan, t.int.getLsbD m.toNat = if m = x.ch ∧ csrIntMajor o = true then true else s.int.getLsbD m.toNat) ∧
      (∀ m : Chan, t.erq.getLsbD m.toNat = if m = x.ch ∧ csrDreq o = true then false else s.erq.getLsbD m.toNat) ∧
      (∀ m : Chan, t.inprog.getLsbD m.toNat = if m = x.ch then false else s.inprog.getLsbD m.toNat) ∧
      (s.err.getLsbD x.ch.toNat = false → chstate t x.ch = .done) ∧
      t = { s with tcd := t.tcd, int := t.int, erq := t.erq, inprog := t.inprog, cur := none } ∧ sameBytes s t

/-- R172, R170, R86: a major loop with a link first reads the 32 bytes of the next descriptor, one 4-byte word a step at
ascending addresses: from memory the bytes stored there, from a device four bytes that are a free value (assumption
5). A refused read is kept for the commit, and an access to the block's own surfaces is refused (R89). That the load
is eight steps before the commit's is DEDUCED (assumption 13). -/
def Obligations.NextDescriptorIsReadWordByWord : Prop :=
  ∀ (s : State) (x : Ctx) (got : List Byte), moverNext s → s.cur = some x → x.wr = false → x.rem = 0 →
    let o := s.slot x.ch
    count o.citer - 1 = 0 → csrEsg o = true → (x.part = .idle ∧ got = [] ∨ x.part = .loading got) → got.length < 32 →
    let a := o.dlastSga + BitVec.ofNat 32 got.length
    (busResp s.platform a .four .read = .memory →
      step s = .next { s with
        trace := ⟨.read, a, .four, s.mem.read a 4, true⟩ :: s.trace
        cur := some { x with part := .loading (got ++ s.mem.read a 4) } }) ∧
    (busResp s.platform a .four .read = .device → ∃ b, b.length = 4 ∧
      step s = .next { s with
        draws := s.draws + 1
        trace := ⟨.read, a, .four, b, true⟩ :: s.trace
        cur := some { x with part := .loading (got ++ b) } }) ∧
    (busResp s.platform a .four .read = .error →
      step s = .next { s with
        trace := ⟨.read, a, .four, [], false⟩ :: s.trace
        cur := some { x with part := .loadFailed } }) ∧
    (busResp s.platform a .four .read = .self → step s = .refused (.selfAccess a))

/-- R172, R170, R171: with all 32 bytes read and no cancel pending, the commit's interrupt, request and link effects
happen by the completed descriptor's bits, and then the whole slot is the image, with `ACTIVE` and bit 13 of `CSR`
zero; the chain goes on. -/
def Obligations.ScatterGatherReplacesSlot : Prop :=
  ∀ (s : State) (x : Ctx) (got : List Byte), moverNext s → s.cur = some x → x.wr = false → x.rem = 0 →
    s.cr.cx = false → s.cr.ecx = false →
    let o := s.slot x.ch
    let d := tcdOfBytes got
    count o.citer - 1 = 0 → csrEsg o = true → x.part = .loading got → got.length = 32 →
    ∃ t, step s = .next t ∧
      t.slot x.ch = { d with csr := (t.slot x.ch).csr } ∧
      (∀ i, (t.slot x.ch).csr.getLsbD i = if i = 6 ∨ i = 13 then false else d.csr.getLsbD i) ∧
      (∀ m, m ≠ x.ch → t.slot m = { s.slot m with csr := (t.slot m).csr }) ∧
      (∀ m i, m ≠ x.ch → (t.slot m).csr.getLsbD i =
        if i = 0 ∧ csrMajorElink o = true ∧ m = csrMajorLinkCh o then true else (s.slot m).csr.getLsbD i) ∧
      (∀ m : Chan, t.int.getLsbD m.toNat = if m = x.ch ∧ csrIntMajor o = true then true else s.int.getLsbD m.toNat) ∧
      (∀ m : Chan, t.erq.getLsbD m.toNat = if m = x.ch ∧ csrDreq o = true then false else s.erq.getLsbD m.toNat) ∧
      t = { s with tcd := t.tcd, int := t.int, erq := t.erq, cur := none } ∧ sameBytes s t

/-- R170, R172, R288, R300 (c): after a refused next-descriptor read the completion's effects are applied, the slot is
not replaced, and `SBE` is captured: `DONE` and `ERR[c]` are seen together, the chain is no longer in progress, both
cancel bits are 0, and the channel is `Faulted`; nothing else changes. -/
def Obligations.ScatterGatherFailureKeepsCommit : Prop :=
  ∀ (s : State) (x : Ctx), moverNext s → s.cur = some x → x.wr = false → x.rem = 0 →
    let o := s.slot x.ch
    count o.citer - 1 = 0 → csrEsg o = true → x.part = .loadFailed →
    ∃ t, step s = .next t ∧
      t.slot x.ch = { o with saddr := x.sa + o.slast, daddr := x.da, citer := o.biter, csr := (t.slot x.ch).csr } ∧
      (∀ m, m ≠ x.ch → t.slot m = { s.slot m with csr := (t.slot m).csr }) ∧
      (∀ m i, (t.slot m).csr.getLsbD i =
        if i = 0 ∧ csrMajorElink o = true ∧ m = csrMajorLinkCh o then true
        else if i = 6 ∧ m = x.ch then false else if i = 7 ∧ m = x.ch then true else (s.slot m).csr.getLsbD i) ∧
      (∀ m : Chan, t.int.getLsbD m.toNat = if m = x.ch ∧ csrIntMajor o = true then true else s.int.getLsbD m.toNat) ∧
      (∀ m : Chan, t.erq.getLsbD m.toNat = if m = x.ch ∧ csrDreq o = true then false else s.erq.getLsbD m.toNat) ∧
      (∀ m : Chan, t.err.getLsbD m.toNat = if m = x.ch then true else s.err.getLsbD m.toNat) ∧
      (∀ m : Chan, t.inprog.getLsbD m.toNat = if m = x.ch then false else s.inprog.getLsbD m.toNat) ∧
      esErrChn t = x.ch ∧ (∀ i, i < 17 → ¬ (8 ≤ i ∧ i ≤ 12) → t.es.getLsbD i = decide (i = 1)) ∧
      chstate t x.ch = .faulted ∧
      t = { s with tcd := t.tcd, int := t.int, erq := t.erq, err := t.err, es := t.es, inprog := t.inprog,
                   cr := { s.cr with cx := false, ecx := false }, cur := none } ∧ sameBytes s t

/-- R266, R267, R300 (e): a completion with a cancel pending is the completion without it, followed by the cancel: with
`CX` alone the cancel bits clear and the chain is no longer in progress; with `ECX`, `CX` set or not, the cancel is
recorded as an error of the channel. When the completion captures an error of its own, the cancel is dropped. -/
def Obligations.CancelFollowsCompletion : Prop :=
  ∀ (s t : State) (x : Ctx), moverNext s → s.cur = some x → x.wr = false → x.rem = 0 →
    (s.cr.cx || s.cr.ecx) = true →
    step { s with cr := { s.cr with cx := false, ecx := false } } = .next t → t.cur = none →
    let failed := x.part = .loadFailed ∧ count (s.slot x.ch).citer - 1 = 0 ∧ csrEsg (s.slot x.ch) = true
    (failed → step s = .next t) ∧
    (¬failed →
      (s.cr.ecx = false → step s = .next { t with inprog := putBit t.inprog x.ch.toNat false }) ∧
      (s.cr.ecx = true → step s = .next (raiseChannelError x.ch [.ecx] t)))

/-! ### Preemption (R205, R210 to R212) -/

/-- R210, R211, R205: at a sequence boundary with bytes left, no suspended context, no cancel pending and `ECP = 1`, a
requesting channel with `DPA = 0` and higher priority makes the step suspend the channel as it stands and
activate such a channel of greatest priority. With nothing executing and a context suspended, the step resumes it
as it was; arbitration does not run and no flag changes. -/
def Obligations.PreemptionAndResume : Prop :=
  (∀ (s : State) (x : Ctx) (h : Chan), moverNext s → s.cur = some x → x.rem ≠ 0 → atBoundary x = true → s.susp = none →
    s.cr.cx = false → s.cr.ecx = false → (s.pri x.ch).ecp = true →
    req s h = true → (s.pri h).dpa = false → prio s x.ch < prio s h →
    ∃ k s', req s k = true ∧ (s.pri k).dpa = false ∧ prio s x.ch < prio s k ∧
      (∀ m, req s m = true → (s.pri m).dpa = false → prio s m ≤ prio s k) ∧ (s' = s ∨ s' = s.drawn) ∧
      step s = .next (activate k { s' with susp := some x, cur := none })) ∧
  (∀ (s : State) (y : Ctx), moverNext s → s.cur = none → s.susp = some y →
    step s = .next { s with cur := some y, susp := none })

/-- R212, R205, R210, R288, R320: the suspended context changes only when a channel is preempted (at a boundary with
bytes left, none being suspended, no cancel pending, with `ECP = 1`, by a requesting channel of higher priority with
`DPA = 0`), when it is resumed with nothing executing, or at a reset event. -/
def Obligations.SuspensionOnlyByPreemption : Prop :=
  ∀ s t : State, step s = .next t → t.susp ≠ s.susp →
    (∃ x h, s.susp = none ∧ s.cur = some x ∧ t.susp = some x ∧ atBoundary x = true ∧ x.rem ≠ 0 ∧
      s.cr.cx = false ∧ s.cr.ecx = false ∧ (s.pri x.ch).ecp = true ∧
      req s h = true ∧ (s.pri h).dpa = false ∧ prio s x.ch < prio s h) ∨
    (∃ y, s.cur = none ∧ s.susp = some y ∧ t.cur = some y ∧ t.susp = none) ∨
    (∃ rest, s.agenda = .reset true :: rest ∧ t.susp = none)

/-! ### Outputs, latches, ownership (R31, R97, R221, R296 to R298, R305, R331) -/

/-- R296: the outputs are levels of the latches: one per channel, and the error output when some channel has its error
latched and enabled. -/
def Obligations.InterruptOutputs : Prop :=
  ∀ s : State, (∀ n : Chan, irqCh s n = s.int.getLsbD n.toNat) ∧
    (irqErr s = true ↔ ∃ n : Chan, s.err.getLsbD n.toNat = true ∧ s.eei.getLsbD n.toNat = true)

/-- R298: a completion or error latch falls only by `CINT`, `CERR` or a 1 written to its bit; the data mover clears
neither. -/
def Obligations.LatchesFallOnlyByClearingWrites : Prop :=
  (∀ (i : Instr) (s t : State) (n : Chan), exec i s = .next t →
    (s.int.getLsbD n.toNat = true → t.int.getLsbD n.toNat = false →
      i = .cint n ∨ i = .cintAll ∨ ∃ v, i = .int (.write v) ∧ v.getLsbD n.toNat = true) ∧
    (s.err.getLsbD n.toNat = true → t.err.getLsbD n.toNat = false →
      i = .cerr n ∨ i = .cerrAll ∨ ∃ v, i = .err (.write v) ∧ v.getLsbD n.toNat = true)) ∧
  (∀ (s t : State) (n : Chan), moverNext s → step s = .next t →
    (s.int.getLsbD n.toNat = true → t.int.getLsbD n.toNat = true) ∧
    (s.err.getLsbD n.toNat = true → t.err.getLsbD n.toNat = true))

/-- R31, R97: a data-mover step whose bus access is taken changes no register: the slots, the enables, the latches and
the error record change only in steps that access nothing. -/
def Obligations.BusAccessChangesNoRegister : Prop :=
  ∀ s t : State, moverNext s → step s = .next t → (∃ e, t.trace = e :: s.trace ∧ e.taken = true) →
    t.tcd = s.tcd ∧ t.erq = s.erq ∧ t.eei = s.eei ∧ t.int = s.int ∧ t.err = s.err ∧ t.es = s.es ∧ t.cr = s.cr ∧
    t.dchpri = s.dchpri ∧ t.chcfg = s.chcfg ∧ t.inprog = s.inprog ∧ t.trg = s.trg ∧ t.susp = s.susp

/-- R31, R114, R250, R331: no operation of the host changes `ACTIVE` of any channel, the executing or suspended
context, or `ES[16:0]`; and of an executing channel's slot it changes at most `START` and `DONE`. -/
def Obligations.HostCannotDisturbExecution : Prop :=
  ∀ (i : Instr) (s t : State), exec i s = .next t →
    t.cur = s.cur ∧ t.susp = s.susp ∧ t.es = s.es ∧ t.mem = s.mem ∧
    (∀ n, csrActive (t.slot n) = csrActive (s.slot n)) ∧
    (∀ n, csrActive (s.slot n) = true → t.slot n = { s.slot n with csr := (t.slot n).csr } ∧
      ∀ j, j ≠ 0 → j ≠ 7 → (t.slot n).csr.getLsbD j = (s.slot n).csr.getLsbD j)

/-- R127, R221, R305: the three writes of `ACK n` clear exactly channel `n`'s latches and done bit, and a channel that
is then not enabled, started, bound or in progress is `Free`. -/
def Obligations.AcknowledgmentReturnsToFree : Prop :=
  ∀ (s : State) (n : Chan), ∃ t u v, exec (.cint n) s = .next t ∧ exec (.cdne n) t = .next u ∧ exec (.cerr n) u = .next v ∧
    v = { s.acknowledge n with hostReply := .ack } ∧
    (∀ m, m ≠ n → v.slot m = s.slot m ∧ v.int.getLsbD m.toNat = s.int.getLsbD m.toNat ∧
      v.err.getLsbD m.toNat = s.err.getLsbD m.toNat) ∧
    (csrActive (s.slot n) = false → csrStart (s.slot n) = false → s.inprog.getLsbD n.toNat = false →
      s.erq.getLsbD n.toNat = false → (s.cfg n).enbl = false → chstate v n = .free)

/-! ### Reset (R70, R320 to R323) -/

/-- R70: the values the spec gives for reset (the ten slot fields it gives no value are not mentioned). -/
def Obligations.ResetStateValues : Prop :=
  crRead State.reset = 0x400 ∧ esRead State.reset = 0 ∧ State.reset.erq = 0 ∧ State.reset.eei = 0 ∧
  State.reset.int = 0 ∧ State.reset.err = 0 ∧ hrsRead State.reset = 0 ∧
  (∀ n : Chan, State.reset.pri n = { ecp := false, dpa := false, chpri := BitVec.ofNat 4 (n.toNat % 16) } ∧
    (State.reset.slot n).csr = 0 ∧ chcfgRead State.reset n = 0 ∧ chstate State.reset n = .free ∧
    irqCh State.reset n = false) ∧
  State.reset.cur = none ∧ State.reset.susp = none ∧ State.reset.inprog = 0 ∧ State.reset.trg = 0 ∧
  irqErr State.reset = false

/-- R320, R321: the reset event, in any state, gives every register and hidden bit its reset value in one step, makes
every channel `Free` with all outputs 0, and leaves memory and what lies outside the block; while the input stays
asserted the data mover does nothing, and a host operation is refused (the model's choice: assumption 16). When the
input is released the block is in the state it was left in, and nothing else changes. -/
def Obligations.ResetEvent : Prop :=
  (∀ (s : State) (rest : List Event), s.agenda = .reset true :: rest → ∃ t, step s = .next t ∧
    t.cr = State.reset.cr ∧ t.es = 0 ∧ t.erq = 0 ∧ t.eei = 0 ∧ t.int = 0 ∧ t.err = 0 ∧ t.dchpri = State.reset.dchpri ∧
    t.chcfg = State.reset.chcfg ∧ (∀ n, (t.slot n).csr = 0) ∧ t.inprog = 0 ∧ t.trg = 0 ∧ t.cur = none ∧ t.susp = none ∧
    (∀ n, chstate t n = .free ∧ irqCh t n = false) ∧ irqErr t = false ∧
    t.inReset = true ∧
    t.trace = s.trace ∧ t.srcline = s.srcline ∧ t.platform = s.platform ∧ t.mem = s.mem ∧ sameBytes s t) ∧
  (∀ (s : State) (rest : List Event), s.agenda = .reset false :: rest →
    step s = .next { s with agenda := rest, inReset := false }) ∧
  (∀ s : State, s.agenda = [] → s.inReset = true → step s = .next s) ∧
  (∀ (s : State) (f : Format) (b : List Byte) (rest : List Event), s.agenda = .host f b :: rest → s.inReset = true →
    step s = .refused .heldInReset)

/-! ### What every step keeps -/

/-- Every step keeps the canonical form of memory. -/
def Obligations.MemoryStaysCanonical : Prop :=
  ∀ s t : State, s.mem.wf = true → step s = .next t → t.mem.wf = true

/-- R60, R211: every step keeps `ACTIVE` equal to "executing or suspended" for every channel, and the two contexts on
different channels. -/
def Obligations.ActiveMarksExecutingChannels : Prop :=
  ∀ s t : State, executionAgrees s → step s = .next t → executionAgrees t

/-- R34: every step keeps the reserved bits that State stores at 0. -/
def Obligations.ReservedBitsStayZero : Prop :=
  ∀ s t : State, reservedZero s → step s = .next t → reservedZero t

/-- R233, R265 to R268, R288: every step keeps the cancel bits at 0 while no channel executes. -/
def Obligations.CancelBitsHeldOnlyWhileExecuting : Prop :=
  ∀ s t : State, cancelHeld s → step s = .next t → cancelHeld t

/-- R84, R141, R150, R153, R211: every step keeps each context in agreement with its slot: legal sizes, addresses and
offsets that are multiples of them, whole sequences left, whole elements queued, and a suspended channel at a
boundary. -/
def Obligations.ContextsStayConsistent : Prop :=
  ∀ s t : State, executionAgrees s → contextsOk s → step s = .next t → contextsOk t

/-- R84, R85: a misaligned access is never issued: from a consistent state a step makes at most one bus access, of 1, 2
or 4 bytes, at a multiple of its size. -/
def Obligations.EveryBusAccessIsAligned : Prop :=
  ∀ s t : State, executionAgrees s → contextsOk s → step s = .next t →
    t.trace = s.trace ∨ ∃ e, t.trace = e :: s.trace ∧ aligned e = true

/-- The reset state meets every invariant that the steps keep. -/
def Obligations.ResetMeetsInvariants : Prop :=
  State.reset.mem.wf = true ∧ executionAgrees State.reset ∧ reservedZero State.reset ∧ cancelHeld State.reset ∧
  contextsOk State.reset
end

