-- ==== Sys2Proof/Laws/State.lean ====
section
/-! SUPPORT. One lemma per field of State and named update, true by rfl: no later proof unfolds an update. -/

namespace Sys2Proof.Machine

/-! ### `State.setSlot` -/

@[simp] theorem State.setSlot_cr (s : State) (n : Chan) (x : Tcd) : (s.setSlot n x).cr = s.cr := rfl
@[simp] theorem State.setSlot_es (s : State) (n : Chan) (x : Tcd) : (s.setSlot n x).es = s.es := rfl
@[simp] theorem State.setSlot_erq (s : State) (n : Chan) (x : Tcd) : (s.setSlot n x).erq = s.erq := rfl
@[simp] theorem State.setSlot_eei (s : State) (n : Chan) (x : Tcd) : (s.setSlot n x).eei = s.eei := rfl
@[simp] theorem State.setSlot_int (s : State) (n : Chan) (x : Tcd) : (s.setSlot n x).int = s.int := rfl
@[simp] theorem State.setSlot_err (s : State) (n : Chan) (x : Tcd) : (s.setSlot n x).err = s.err := rfl
@[simp] theorem State.setSlot_dchpri (s : State) (n : Chan) (x : Tcd) : (s.setSlot n x).dchpri = s.dchpri := rfl
@[simp] theorem State.setSlot_tcd (s : State) (n : Chan) (x : Tcd) : (s.setSlot n x).tcd = s.tcd.set n.toNat x n.isLt := rfl
@[simp] theorem State.setSlot_chcfg (s : State) (n : Chan) (x : Tcd) : (s.setSlot n x).chcfg = s.chcfg := rfl
@[simp] theorem State.setSlot_inprog (s : State) (n : Chan) (x : Tcd) : (s.setSlot n x).inprog = s.inprog := rfl
@[simp] theorem State.setSlot_trg (s : State) (n : Chan) (x : Tcd) : (s.setSlot n x).trg = s.trg := rfl
@[simp] theorem State.setSlot_cur (s : State) (n : Chan) (x : Tcd) : (s.setSlot n x).cur = s.cur := rfl
@[simp] theorem State.setSlot_susp (s : State) (n : Chan) (x : Tcd) : (s.setSlot n x).susp = s.susp := rfl
@[simp] theorem State.setSlot_mem (s : State) (n : Chan) (x : Tcd) : (s.setSlot n x).mem = s.mem := rfl
@[simp] theorem State.setSlot_srcline (s : State) (n : Chan) (x : Tcd) : (s.setSlot n x).srcline = s.srcline := rfl
@[simp] theorem State.setSlot_inReset (s : State) (n : Chan) (x : Tcd) : (s.setSlot n x).inReset = s.inReset := rfl
@[simp] theorem State.setSlot_hostReply (s : State) (n : Chan) (x : Tcd) : (s.setSlot n x).hostReply = s.hostReply := rfl
@[simp] theorem State.setSlot_trace (s : State) (n : Chan) (x : Tcd) : (s.setSlot n x).trace = s.trace := rfl
@[simp] theorem State.setSlot_draws (s : State) (n : Chan) (x : Tcd) : (s.setSlot n x).draws = s.draws := rfl
@[simp] theorem State.setSlot_platform (s : State) (n : Chan) (x : Tcd) : (s.setSlot n x).platform = s.platform := rfl
@[simp] theorem State.setSlot_agenda (s : State) (n : Chan) (x : Tcd) : (s.setSlot n x).agenda = s.agenda := rfl

/-! ### `State.updSlot` -/

@[simp] theorem State.updSlot_cr (s : State) (n : Chan) (f : Tcd → Tcd) : (s.updSlot n f).cr = s.cr := rfl
@[simp] theorem State.updSlot_es (s : State) (n : Chan) (f : Tcd → Tcd) : (s.updSlot n f).es = s.es := rfl
@[simp] theorem State.updSlot_erq (s : State) (n : Chan) (f : Tcd → Tcd) : (s.updSlot n f).erq = s.erq := rfl
@[simp] theorem State.updSlot_eei (s : State) (n : Chan) (f : Tcd → Tcd) : (s.updSlot n f).eei = s.eei := rfl
@[simp] theorem State.updSlot_int (s : State) (n : Chan) (f : Tcd → Tcd) : (s.updSlot n f).int = s.int := rfl
@[simp] theorem State.updSlot_err (s : State) (n : Chan) (f : Tcd → Tcd) : (s.updSlot n f).err = s.err := rfl
@[simp] theorem State.updSlot_dchpri (s : State) (n : Chan) (f : Tcd → Tcd) : (s.updSlot n f).dchpri = s.dchpri := rfl
@[simp] theorem State.updSlot_tcd (s : State) (n : Chan) (f : Tcd → Tcd) : (s.updSlot n f).tcd = s.tcd.set n.toNat (f (s.slot n)) n.isLt := rfl
@[simp] theorem State.updSlot_chcfg (s : State) (n : Chan) (f : Tcd → Tcd) : (s.updSlot n f).chcfg = s.chcfg := rfl
@[simp] theorem State.updSlot_inprog (s : State) (n : Chan) (f : Tcd → Tcd) : (s.updSlot n f).inprog = s.inprog := rfl
@[simp] theorem State.updSlot_trg (s : State) (n : Chan) (f : Tcd → Tcd) : (s.updSlot n f).trg = s.trg := rfl
@[simp] theorem State.updSlot_cur (s : State) (n : Chan) (f : Tcd → Tcd) : (s.updSlot n f).cur = s.cur := rfl
@[simp] theorem State.updSlot_susp (s : State) (n : Chan) (f : Tcd → Tcd) : (s.updSlot n f).susp = s.susp := rfl
@[simp] theorem State.updSlot_mem (s : State) (n : Chan) (f : Tcd → Tcd) : (s.updSlot n f).mem = s.mem := rfl
@[simp] theorem State.updSlot_srcline (s : State) (n : Chan) (f : Tcd → Tcd) : (s.updSlot n f).srcline = s.srcline := rfl
@[simp] theorem State.updSlot_inReset (s : State) (n : Chan) (f : Tcd → Tcd) : (s.updSlot n f).inReset = s.inReset := rfl
@[simp] theorem State.updSlot_hostReply (s : State) (n : Chan) (f : Tcd → Tcd) : (s.updSlot n f).hostReply = s.hostReply := rfl
@[simp] theorem State.updSlot_trace (s : State) (n : Chan) (f : Tcd → Tcd) : (s.updSlot n f).trace = s.trace := rfl
@[simp] theorem State.updSlot_draws (s : State) (n : Chan) (f : Tcd → Tcd) : (s.updSlot n f).draws = s.draws := rfl
@[simp] theorem State.updSlot_platform (s : State) (n : Chan) (f : Tcd → Tcd) : (s.updSlot n f).platform = s.platform := rfl
@[simp] theorem State.updSlot_agenda (s : State) (n : Chan) (f : Tcd → Tcd) : (s.updSlot n f).agenda = s.agenda := rfl

/-! ### `State.overSlots` -/

@[simp] theorem State.overSlots_cr (s : State) (sel : Word) (f : Tcd → Tcd) : (s.overSlots sel f).cr = s.cr := rfl
@[simp] theorem State.overSlots_es (s : State) (sel : Word) (f : Tcd → Tcd) : (s.overSlots sel f).es = s.es := rfl
@[simp] theorem State.overSlots_erq (s : State) (sel : Word) (f : Tcd → Tcd) : (s.overSlots sel f).erq = s.erq := rfl
@[simp] theorem State.overSlots_eei (s : State) (sel : Word) (f : Tcd → Tcd) : (s.overSlots sel f).eei = s.eei := rfl
@[simp] theorem State.overSlots_int (s : State) (sel : Word) (f : Tcd → Tcd) : (s.overSlots sel f).int = s.int := rfl
@[simp] theorem State.overSlots_err (s : State) (sel : Word) (f : Tcd → Tcd) : (s.overSlots sel f).err = s.err := rfl
@[simp] theorem State.overSlots_dchpri (s : State) (sel : Word) (f : Tcd → Tcd) : (s.overSlots sel f).dchpri = s.dchpri := rfl
@[simp] theorem State.overSlots_tcd (s : State) (sel : Word) (f : Tcd → Tcd) : (s.overSlots sel f).tcd = s.tcd.mapIdx fun i t => if sel.getLsbD i then f t else t := rfl
@[simp] theorem State.overSlots_chcfg (s : State) (sel : Word) (f : Tcd → Tcd) : (s.overSlots sel f).chcfg = s.chcfg := rfl
@[simp] theorem State.overSlots_inprog (s : State) (sel : Word) (f : Tcd → Tcd) : (s.overSlots sel f).inprog = s.inprog := rfl
@[simp] theorem State.overSlots_trg (s : State) (sel : Word) (f : Tcd → Tcd) : (s.overSlots sel f).trg = s.trg := rfl
@[simp] theorem State.overSlots_cur (s : State) (sel : Word) (f : Tcd → Tcd) : (s.overSlots sel f).cur = s.cur := rfl
@[simp] theorem State.overSlots_susp (s : State) (sel : Word) (f : Tcd → Tcd) : (s.overSlots sel f).susp = s.susp := rfl
@[simp] theorem State.overSlots_mem (s : State) (sel : Word) (f : Tcd → Tcd) : (s.overSlots sel f).mem = s.mem := rfl
@[simp] theorem State.overSlots_srcline (s : State) (sel : Word) (f : Tcd → Tcd) : (s.overSlots sel f).srcline = s.srcline := rfl
@[simp] theorem State.overSlots_inReset (s : State) (sel : Word) (f : Tcd → Tcd) : (s.overSlots sel f).inReset = s.inReset := rfl
@[simp] theorem State.overSlots_hostReply (s : State) (sel : Word) (f : Tcd → Tcd) : (s.overSlots sel f).hostReply = s.hostReply := rfl
@[simp] theorem State.overSlots_trace (s : State) (sel : Word) (f : Tcd → Tcd) : (s.overSlots sel f).trace = s.trace := rfl
@[simp] theorem State.overSlots_draws (s : State) (sel : Word) (f : Tcd → Tcd) : (s.overSlots sel f).draws = s.draws := rfl
@[simp] theorem State.overSlots_platform (s : State) (sel : Word) (f : Tcd → Tcd) : (s.overSlots sel f).platform = s.platform := rfl
@[simp] theorem State.overSlots_agenda (s : State) (sel : Word) (f : Tcd → Tcd) : (s.overSlots sel f).agenda = s.agenda := rfl

/-! ### `State.setPri` -/

@[simp] theorem State.setPri_cr (s : State) (n : Chan) (x : ChPri) : (s.setPri n x).cr = s.cr := rfl
@[simp] theorem State.setPri_es (s : State) (n : Chan) (x : ChPri) : (s.setPri n x).es = s.es := rfl
@[simp] theorem State.setPri_erq (s : State) (n : Chan) (x : ChPri) : (s.setPri n x).erq = s.erq := rfl
@[simp] theorem State.setPri_eei (s : State) (n : Chan) (x : ChPri) : (s.setPri n x).eei = s.eei := rfl
@[simp] theorem State.setPri_int (s : State) (n : Chan) (x : ChPri) : (s.setPri n x).int = s.int := rfl
@[simp] theorem State.setPri_err (s : State) (n : Chan) (x : ChPri) : (s.setPri n x).err = s.err := rfl
@[simp] theorem State.setPri_dchpri (s : State) (n : Chan) (x : ChPri) : (s.setPri n x).dchpri = s.dchpri.set n.toNat x n.isLt := rfl
@[simp] theorem State.setPri_tcd (s : State) (n : Chan) (x : ChPri) : (s.setPri n x).tcd = s.tcd := rfl
@[simp] theorem State.setPri_chcfg (s : State) (n : Chan) (x : ChPri) : (s.setPri n x).chcfg = s.chcfg := rfl
@[simp] theorem State.setPri_inprog (s : State) (n : Chan) (x : ChPri) : (s.setPri n x).inprog = s.inprog := rfl
@[simp] theorem State.setPri_trg (s : State) (n : Chan) (x : ChPri) : (s.setPri n x).trg = s.trg := rfl
@[simp] theorem State.setPri_cur (s : State) (n : Chan) (x : ChPri) : (s.setPri n x).cur = s.cur := rfl
@[simp] theorem State.setPri_susp (s : State) (n : Chan) (x : ChPri) : (s.setPri n x).susp = s.susp := rfl
@[simp] theorem State.setPri_mem (s : State) (n : Chan) (x : ChPri) : (s.setPri n x).mem = s.mem := rfl
@[simp] theorem State.setPri_srcline (s : State) (n : Chan) (x : ChPri) : (s.setPri n x).srcline = s.srcline := rfl
@[simp] theorem State.setPri_inReset (s : State) (n : Chan) (x : ChPri) : (s.setPri n x).inReset = s.inReset := rfl
@[simp] theorem State.setPri_hostReply (s : State) (n : Chan) (x : ChPri) : (s.setPri n x).hostReply = s.hostReply := rfl
@[simp] theorem State.setPri_trace (s : State) (n : Chan) (x : ChPri) : (s.setPri n x).trace = s.trace := rfl
@[simp] theorem State.setPri_draws (s : State) (n : Chan) (x : ChPri) : (s.setPri n x).draws = s.draws := rfl
@[simp] theorem State.setPri_platform (s : State) (n : Chan) (x : ChPri) : (s.setPri n x).platform = s.platform := rfl
@[simp] theorem State.setPri_agenda (s : State) (n : Chan) (x : ChPri) : (s.setPri n x).agenda = s.agenda := rfl

/-! ### `State.setCfg` -/

@[simp] theorem State.setCfg_cr (s : State) (n : Chan) (x : ChCfg) : (s.setCfg n x).cr = s.cr := rfl
@[simp] theorem State.setCfg_es (s : State) (n : Chan) (x : ChCfg) : (s.setCfg n x).es = s.es := rfl
@[simp] theorem State.setCfg_erq (s : State) (n : Chan) (x : ChCfg) : (s.setCfg n x).erq = s.erq := rfl
@[simp] theorem State.setCfg_eei (s : State) (n : Chan) (x : ChCfg) : (s.setCfg n x).eei = s.eei := rfl
@[simp] theorem State.setCfg_int (s : State) (n : Chan) (x : ChCfg) : (s.setCfg n x).int = s.int := rfl
@[simp] theorem State.setCfg_err (s : State) (n : Chan) (x : ChCfg) : (s.setCfg n x).err = s.err := rfl
@[simp] theorem State.setCfg_dchpri (s : State) (n : Chan) (x : ChCfg) : (s.setCfg n x).dchpri = s.dchpri := rfl
@[simp] theorem State.setCfg_tcd (s : State) (n : Chan) (x : ChCfg) : (s.setCfg n x).tcd = s.tcd := rfl
@[simp] theorem State.setCfg_chcfg (s : State) (n : Chan) (x : ChCfg) : (s.setCfg n x).chcfg = s.chcfg.set n.toNat x n.isLt := rfl
@[simp] theorem State.setCfg_inprog (s : State) (n : Chan) (x : ChCfg) : (s.setCfg n x).inprog = s.inprog := rfl
@[simp] theorem State.setCfg_trg (s : State) (n : Chan) (x : ChCfg) : (s.setCfg n x).trg = s.trg := rfl
@[simp] theorem State.setCfg_cur (s : State) (n : Chan) (x : ChCfg) : (s.setCfg n x).cur = s.cur := rfl
@[simp] theorem State.setCfg_susp (s : State) (n : Chan) (x : ChCfg) : (s.setCfg n x).susp = s.susp := rfl
@[simp] theorem State.setCfg_mem (s : State) (n : Chan) (x : ChCfg) : (s.setCfg n x).mem = s.mem := rfl
@[simp] theorem State.setCfg_srcline (s : State) (n : Chan) (x : ChCfg) : (s.setCfg n x).srcline = s.srcline := rfl
@[simp] theorem State.setCfg_inReset (s : State) (n : Chan) (x : ChCfg) : (s.setCfg n x).inReset = s.inReset := rfl
@[simp] theorem State.setCfg_hostReply (s : State) (n : Chan) (x : ChCfg) : (s.setCfg n x).hostReply = s.hostReply := rfl
@[simp] theorem State.setCfg_trace (s : State) (n : Chan) (x : ChCfg) : (s.setCfg n x).trace = s.trace := rfl
@[simp] theorem State.setCfg_draws (s : State) (n : Chan) (x : ChCfg) : (s.setCfg n x).draws = s.draws := rfl
@[simp] theorem State.setCfg_platform (s : State) (n : Chan) (x : ChCfg) : (s.setCfg n x).platform = s.platform := rfl
@[simp] theorem State.setCfg_agenda (s : State) (n : Chan) (x : ChCfg) : (s.setCfg n x).agenda = s.agenda := rfl

/-! ### `State.ack` -/

@[simp] theorem State.ack_cr (s : State) : (s.ack).cr = s.cr := rfl
@[simp] theorem State.ack_es (s : State) : (s.ack).es = s.es := rfl
@[simp] theorem State.ack_erq (s : State) : (s.ack).erq = s.erq := rfl
@[simp] theorem State.ack_eei (s : State) : (s.ack).eei = s.eei := rfl
@[simp] theorem State.ack_int (s : State) : (s.ack).int = s.int := rfl
@[simp] theorem State.ack_err (s : State) : (s.ack).err = s.err := rfl
@[simp] theorem State.ack_dchpri (s : State) : (s.ack).dchpri = s.dchpri := rfl
@[simp] theorem State.ack_tcd (s : State) : (s.ack).tcd = s.tcd := rfl
@[simp] theorem State.ack_chcfg (s : State) : (s.ack).chcfg = s.chcfg := rfl
@[simp] theorem State.ack_inprog (s : State) : (s.ack).inprog = s.inprog := rfl
@[simp] theorem State.ack_trg (s : State) : (s.ack).trg = s.trg := rfl
@[simp] theorem State.ack_cur (s : State) : (s.ack).cur = s.cur := rfl
@[simp] theorem State.ack_susp (s : State) : (s.ack).susp = s.susp := rfl
@[simp] theorem State.ack_mem (s : State) : (s.ack).mem = s.mem := rfl
@[simp] theorem State.ack_srcline (s : State) : (s.ack).srcline = s.srcline := rfl
@[simp] theorem State.ack_inReset (s : State) : (s.ack).inReset = s.inReset := rfl
@[simp] theorem State.ack_hostReply (s : State) : (s.ack).hostReply = .ack := rfl
@[simp] theorem State.ack_trace (s : State) : (s.ack).trace = s.trace := rfl
@[simp] theorem State.ack_draws (s : State) : (s.ack).draws = s.draws := rfl
@[simp] theorem State.ack_platform (s : State) : (s.ack).platform = s.platform := rfl
@[simp] theorem State.ack_agenda (s : State) : (s.ack).agenda = s.agenda := rfl

/-! ### `State.hostBusError` -/

@[simp] theorem State.hostBusError_cr (s : State) : (s.hostBusError).cr = s.cr := rfl
@[simp] theorem State.hostBusError_es (s : State) : (s.hostBusError).es = s.es := rfl
@[simp] theorem State.hostBusError_erq (s : State) : (s.hostBusError).erq = s.erq := rfl
@[simp] theorem State.hostBusError_eei (s : State) : (s.hostBusError).eei = s.eei := rfl
@[simp] theorem State.hostBusError_int (s : State) : (s.hostBusError).int = s.int := rfl
@[simp] theorem State.hostBusError_err (s : State) : (s.hostBusError).err = s.err := rfl
@[simp] theorem State.hostBusError_dchpri (s : State) : (s.hostBusError).dchpri = s.dchpri := rfl
@[simp] theorem State.hostBusError_tcd (s : State) : (s.hostBusError).tcd = s.tcd := rfl
@[simp] theorem State.hostBusError_chcfg (s : State) : (s.hostBusError).chcfg = s.chcfg := rfl
@[simp] theorem State.hostBusError_inprog (s : State) : (s.hostBusError).inprog = s.inprog := rfl
@[simp] theorem State.hostBusError_trg (s : State) : (s.hostBusError).trg = s.trg := rfl
@[simp] theorem State.hostBusError_cur (s : State) : (s.hostBusError).cur = s.cur := rfl
@[simp] theorem State.hostBusError_susp (s : State) : (s.hostBusError).susp = s.susp := rfl
@[simp] theorem State.hostBusError_mem (s : State) : (s.hostBusError).mem = s.mem := rfl
@[simp] theorem State.hostBusError_srcline (s : State) : (s.hostBusError).srcline = s.srcline := rfl
@[simp] theorem State.hostBusError_inReset (s : State) : (s.hostBusError).inReset = s.inReset := rfl
@[simp] theorem State.hostBusError_hostReply (s : State) : (s.hostBusError).hostReply = .busError := rfl
@[simp] theorem State.hostBusError_trace (s : State) : (s.hostBusError).trace = s.trace := rfl
@[simp] theorem State.hostBusError_draws (s : State) : (s.hostBusError).draws = s.draws := rfl
@[simp] theorem State.hostBusError_platform (s : State) : (s.hostBusError).platform = s.platform := rfl
@[simp] theorem State.hostBusError_agenda (s : State) : (s.hostBusError).agenda = s.agenda := rfl

/-! ### `State.logBus` -/

@[simp] theorem State.logBus_cr (s : State) (e : BusEvent) : (s.logBus e).cr = s.cr := rfl
@[simp] theorem State.logBus_es (s : State) (e : BusEvent) : (s.logBus e).es = s.es := rfl
@[simp] theorem State.logBus_erq (s : State) (e : BusEvent) : (s.logBus e).erq = s.erq := rfl
@[simp] theorem State.logBus_eei (s : State) (e : BusEvent) : (s.logBus e).eei = s.eei := rfl
@[simp] theorem State.logBus_int (s : State) (e : BusEvent) : (s.logBus e).int = s.int := rfl
@[simp] theorem State.logBus_err (s : State) (e : BusEvent) : (s.logBus e).err = s.err := rfl
@[simp] theorem State.logBus_dchpri (s : State) (e : BusEvent) : (s.logBus e).dchpri = s.dchpri := rfl
@[simp] theorem State.logBus_tcd (s : State) (e : BusEvent) : (s.logBus e).tcd = s.tcd := rfl
@[simp] theorem State.logBus_chcfg (s : State) (e : BusEvent) : (s.logBus e).chcfg = s.chcfg := rfl
@[simp] theorem State.logBus_inprog (s : State) (e : BusEvent) : (s.logBus e).inprog = s.inprog := rfl
@[simp] theorem State.logBus_trg (s : State) (e : BusEvent) : (s.logBus e).trg = s.trg := rfl
@[simp] theorem State.logBus_cur (s : State) (e : BusEvent) : (s.logBus e).cur = s.cur := rfl
@[simp] theorem State.logBus_susp (s : State) (e : BusEvent) : (s.logBus e).susp = s.susp := rfl
@[simp] theorem State.logBus_mem (s : State) (e : BusEvent) : (s.logBus e).mem = s.mem := rfl
@[simp] theorem State.logBus_srcline (s : State) (e : BusEvent) : (s.logBus e).srcline = s.srcline := rfl
@[simp] theorem State.logBus_inReset (s : State) (e : BusEvent) : (s.logBus e).inReset = s.inReset := rfl
@[simp] theorem State.logBus_hostReply (s : State) (e : BusEvent) : (s.logBus e).hostReply = s.hostReply := rfl
@[simp] theorem State.logBus_trace (s : State) (e : BusEvent) : (s.logBus e).trace = e :: s.trace := rfl
@[simp] theorem State.logBus_draws (s : State) (e : BusEvent) : (s.logBus e).draws = s.draws := rfl
@[simp] theorem State.logBus_platform (s : State) (e : BusEvent) : (s.logBus e).platform = s.platform := rfl
@[simp] theorem State.logBus_agenda (s : State) (e : BusEvent) : (s.logBus e).agenda = s.agenda := rfl

/-! ### `State.drawn` -/

@[simp] theorem State.drawn_cr (s : State) : (s.drawn).cr = s.cr := rfl
@[simp] theorem State.drawn_es (s : State) : (s.drawn).es = s.es := rfl
@[simp] theorem State.drawn_erq (s : State) : (s.drawn).erq = s.erq := rfl
@[simp] theorem State.drawn_eei (s : State) : (s.drawn).eei = s.eei := rfl
@[simp] theorem State.drawn_int (s : State) : (s.drawn).int = s.int := rfl
@[simp] theorem State.drawn_err (s : State) : (s.drawn).err = s.err := rfl
@[simp] theorem State.drawn_dchpri (s : State) : (s.drawn).dchpri = s.dchpri := rfl
@[simp] theorem State.drawn_tcd (s : State) : (s.drawn).tcd = s.tcd := rfl
@[simp] theorem State.drawn_chcfg (s : State) : (s.drawn).chcfg = s.chcfg := rfl
@[simp] theorem State.drawn_inprog (s : State) : (s.drawn).inprog = s.inprog := rfl
@[simp] theorem State.drawn_trg (s : State) : (s.drawn).trg = s.trg := rfl
@[simp] theorem State.drawn_cur (s : State) : (s.drawn).cur = s.cur := rfl
@[simp] theorem State.drawn_susp (s : State) : (s.drawn).susp = s.susp := rfl
@[simp] theorem State.drawn_mem (s : State) : (s.drawn).mem = s.mem := rfl
@[simp] theorem State.drawn_srcline (s : State) : (s.drawn).srcline = s.srcline := rfl
@[simp] theorem State.drawn_inReset (s : State) : (s.drawn).inReset = s.inReset := rfl
@[simp] theorem State.drawn_hostReply (s : State) : (s.drawn).hostReply = s.hostReply := rfl
@[simp] theorem State.drawn_trace (s : State) : (s.drawn).trace = s.trace := rfl
@[simp] theorem State.drawn_draws (s : State) : (s.drawn).draws = s.draws + 1 := rfl
@[simp] theorem State.drawn_platform (s : State) : (s.drawn).platform = s.platform := rfl
@[simp] theorem State.drawn_agenda (s : State) : (s.drawn).agenda = s.agenda := rfl

/-! ### `State.clearEei` -/

@[simp] theorem State.clearEei_cr (s : State) (sel : Word) : (s.clearEei sel).cr = s.cr := rfl
@[simp] theorem State.clearEei_es (s : State) (sel : Word) : (s.clearEei sel).es = s.es := rfl
@[simp] theorem State.clearEei_erq (s : State) (sel : Word) : (s.clearEei sel).erq = s.erq := rfl
@[simp] theorem State.clearEei_eei (s : State) (sel : Word) : (s.clearEei sel).eei = clearBits s.eei sel := rfl
@[simp] theorem State.clearEei_int (s : State) (sel : Word) : (s.clearEei sel).int = s.int := rfl
@[simp] theorem State.clearEei_err (s : State) (sel : Word) : (s.clearEei sel).err = s.err := rfl
@[simp] theorem State.clearEei_dchpri (s : State) (sel : Word) : (s.clearEei sel).dchpri = s.dchpri := rfl
@[simp] theorem State.clearEei_tcd (s : State) (sel : Word) : (s.clearEei sel).tcd = s.tcd := rfl
@[simp] theorem State.clearEei_chcfg (s : State) (sel : Word) : (s.clearEei sel).chcfg = s.chcfg := rfl
@[simp] theorem State.clearEei_inprog (s : State) (sel : Word) : (s.clearEei sel).inprog = s.inprog := rfl
@[simp] theorem State.clearEei_trg (s : State) (sel : Word) : (s.clearEei sel).trg = s.trg := rfl
@[simp] theorem State.clearEei_cur (s : State) (sel : Word) : (s.clearEei sel).cur = s.cur := rfl
@[simp] theorem State.clearEei_susp (s : State) (sel : Word) : (s.clearEei sel).susp = s.susp := rfl
@[simp] theorem State.clearEei_mem (s : State) (sel : Word) : (s.clearEei sel).mem = s.mem := rfl
@[simp] theorem State.clearEei_srcline (s : State) (sel : Word) : (s.clearEei sel).srcline = s.srcline := rfl
@[simp] theorem State.clearEei_inReset (s : State) (sel : Word) : (s.clearEei sel).inReset = s.inReset := rfl
@[simp] theorem State.clearEei_hostReply (s : State) (sel : Word) : (s.clearEei sel).hostReply = s.hostReply := rfl
@[simp] theorem State.clearEei_trace (s : State) (sel : Word) : (s.clearEei sel).trace = s.trace := rfl
@[simp] theorem State.clearEei_draws (s : State) (sel : Word) : (s.clearEei sel).draws = s.draws := rfl
@[simp] theorem State.clearEei_platform (s : State) (sel : Word) : (s.clearEei sel).platform = s.platform := rfl
@[simp] theorem State.clearEei_agenda (s : State) (sel : Word) : (s.clearEei sel).agenda = s.agenda := rfl

/-! ### `State.setEei` -/

@[simp] theorem State.setEei_cr (s : State) (sel : Word) : (s.setEei sel).cr = s.cr := rfl
@[simp] theorem State.setEei_es (s : State) (sel : Word) : (s.setEei sel).es = s.es := rfl
@[simp] theorem State.setEei_erq (s : State) (sel : Word) : (s.setEei sel).erq = s.erq := rfl
@[simp] theorem State.setEei_eei (s : State) (sel : Word) : (s.setEei sel).eei = setBits s.eei sel := rfl
@[simp] theorem State.setEei_int (s : State) (sel : Word) : (s.setEei sel).int = s.int := rfl
@[simp] theorem State.setEei_err (s : State) (sel : Word) : (s.setEei sel).err = s.err := rfl
@[simp] theorem State.setEei_dchpri (s : State) (sel : Word) : (s.setEei sel).dchpri = s.dchpri := rfl
@[simp] theorem State.setEei_tcd (s : State) (sel : Word) : (s.setEei sel).tcd = s.tcd := rfl
@[simp] theorem State.setEei_chcfg (s : State) (sel : Word) : (s.setEei sel).chcfg = s.chcfg := rfl
@[simp] theorem State.setEei_inprog (s : State) (sel : Word) : (s.setEei sel).inprog = s.inprog := rfl
@[simp] theorem State.setEei_trg (s : State) (sel : Word) : (s.setEei sel).trg = s.trg := rfl
@[simp] theorem State.setEei_cur (s : State) (sel : Word) : (s.setEei sel).cur = s.cur := rfl
@[simp] theorem State.setEei_susp (s : State) (sel : Word) : (s.setEei sel).susp = s.susp := rfl
@[simp] theorem State.setEei_mem (s : State) (sel : Word) : (s.setEei sel).mem = s.mem := rfl
@[simp] theorem State.setEei_srcline (s : State) (sel : Word) : (s.setEei sel).srcline = s.srcline := rfl
@[simp] theorem State.setEei_inReset (s : State) (sel : Word) : (s.setEei sel).inReset = s.inReset := rfl
@[simp] theorem State.setEei_hostReply (s : State) (sel : Word) : (s.setEei sel).hostReply = s.hostReply := rfl
@[simp] theorem State.setEei_trace (s : State) (sel : Word) : (s.setEei sel).trace = s.trace := rfl
@[simp] theorem State.setEei_draws (s : State) (sel : Word) : (s.setEei sel).draws = s.draws := rfl
@[simp] theorem State.setEei_platform (s : State) (sel : Word) : (s.setEei sel).platform = s.platform := rfl
@[simp] theorem State.setEei_agenda (s : State) (sel : Word) : (s.setEei sel).agenda = s.agenda := rfl

/-! ### `State.clearErq` -/

@[simp] theorem State.clearErq_cr (s : State) (sel : Word) : (s.clearErq sel).cr = s.cr := rfl
@[simp] theorem State.clearErq_es (s : State) (sel : Word) : (s.clearErq sel).es = s.es := rfl
@[simp] theorem State.clearErq_erq (s : State) (sel : Word) : (s.clearErq sel).erq = clearBits s.erq sel := rfl
@[simp] theorem State.clearErq_eei (s : State) (sel : Word) : (s.clearErq sel).eei = s.eei := rfl
@[simp] theorem State.clearErq_int (s : State) (sel : Word) : (s.clearErq sel).int = s.int := rfl
@[simp] theorem State.clearErq_err (s : State) (sel : Word) : (s.clearErq sel).err = s.err := rfl
@[simp] theorem State.clearErq_dchpri (s : State) (sel : Word) : (s.clearErq sel).dchpri = s.dchpri := rfl
@[simp] theorem State.clearErq_tcd (s : State) (sel : Word) : (s.clearErq sel).tcd = s.tcd := rfl
@[simp] theorem State.clearErq_chcfg (s : State) (sel : Word) : (s.clearErq sel).chcfg = s.chcfg := rfl
@[simp] theorem State.clearErq_inprog (s : State) (sel : Word) : (s.clearErq sel).inprog = s.inprog := rfl
@[simp] theorem State.clearErq_trg (s : State) (sel : Word) : (s.clearErq sel).trg = s.trg := rfl
@[simp] theorem State.clearErq_cur (s : State) (sel : Word) : (s.clearErq sel).cur = s.cur := rfl
@[simp] theorem State.clearErq_susp (s : State) (sel : Word) : (s.clearErq sel).susp = s.susp := rfl
@[simp] theorem State.clearErq_mem (s : State) (sel : Word) : (s.clearErq sel).mem = s.mem := rfl
@[simp] theorem State.clearErq_srcline (s : State) (sel : Word) : (s.clearErq sel).srcline = s.srcline := rfl
@[simp] theorem State.clearErq_inReset (s : State) (sel : Word) : (s.clearErq sel).inReset = s.inReset := rfl
@[simp] theorem State.clearErq_hostReply (s : State) (sel : Word) : (s.clearErq sel).hostReply = s.hostReply := rfl
@[simp] theorem State.clearErq_trace (s : State) (sel : Word) : (s.clearErq sel).trace = s.trace := rfl
@[simp] theorem State.clearErq_draws (s : State) (sel : Word) : (s.clearErq sel).draws = s.draws := rfl
@[simp] theorem State.clearErq_platform (s : State) (sel : Word) : (s.clearErq sel).platform = s.platform := rfl
@[simp] theorem State.clearErq_agenda (s : State) (sel : Word) : (s.clearErq sel).agenda = s.agenda := rfl

/-! ### `State.setErq` -/

@[simp] theorem State.setErq_cr (s : State) (sel : Word) : (s.setErq sel).cr = s.cr := rfl
@[simp] theorem State.setErq_es (s : State) (sel : Word) : (s.setErq sel).es = s.es := rfl
@[simp] theorem State.setErq_erq (s : State) (sel : Word) : (s.setErq sel).erq = setBits s.erq sel := rfl
@[simp] theorem State.setErq_eei (s : State) (sel : Word) : (s.setErq sel).eei = s.eei := rfl
@[simp] theorem State.setErq_int (s : State) (sel : Word) : (s.setErq sel).int = s.int := rfl
@[simp] theorem State.setErq_err (s : State) (sel : Word) : (s.setErq sel).err = s.err := rfl
@[simp] theorem State.setErq_dchpri (s : State) (sel : Word) : (s.setErq sel).dchpri = s.dchpri := rfl
@[simp] theorem State.setErq_tcd (s : State) (sel : Word) : (s.setErq sel).tcd = s.tcd := rfl
@[simp] theorem State.setErq_chcfg (s : State) (sel : Word) : (s.setErq sel).chcfg = s.chcfg := rfl
@[simp] theorem State.setErq_inprog (s : State) (sel : Word) : (s.setErq sel).inprog = s.inprog := rfl
@[simp] theorem State.setErq_trg (s : State) (sel : Word) : (s.setErq sel).trg = s.trg := rfl
@[simp] theorem State.setErq_cur (s : State) (sel : Word) : (s.setErq sel).cur = s.cur := rfl
@[simp] theorem State.setErq_susp (s : State) (sel : Word) : (s.setErq sel).susp = s.susp := rfl
@[simp] theorem State.setErq_mem (s : State) (sel : Word) : (s.setErq sel).mem = s.mem := rfl
@[simp] theorem State.setErq_srcline (s : State) (sel : Word) : (s.setErq sel).srcline = s.srcline := rfl
@[simp] theorem State.setErq_inReset (s : State) (sel : Word) : (s.setErq sel).inReset = s.inReset := rfl
@[simp] theorem State.setErq_hostReply (s : State) (sel : Word) : (s.setErq sel).hostReply = s.hostReply := rfl
@[simp] theorem State.setErq_trace (s : State) (sel : Word) : (s.setErq sel).trace = s.trace := rfl
@[simp] theorem State.setErq_draws (s : State) (sel : Word) : (s.setErq sel).draws = s.draws := rfl
@[simp] theorem State.setErq_platform (s : State) (sel : Word) : (s.setErq sel).platform = s.platform := rfl
@[simp] theorem State.setErq_agenda (s : State) (sel : Word) : (s.setErq sel).agenda = s.agenda := rfl

/-! ### `State.clearErr` -/

@[simp] theorem State.clearErr_cr (s : State) (sel : Word) : (s.clearErr sel).cr = s.cr := rfl
@[simp] theorem State.clearErr_es (s : State) (sel : Word) : (s.clearErr sel).es = s.es := rfl
@[simp] theorem State.clearErr_erq (s : State) (sel : Word) : (s.clearErr sel).erq = s.erq := rfl
@[simp] theorem State.clearErr_eei (s : State) (sel : Word) : (s.clearErr sel).eei = s.eei := rfl
@[simp] theorem State.clearErr_int (s : State) (sel : Word) : (s.clearErr sel).int = s.int := rfl
@[simp] theorem State.clearErr_err (s : State) (sel : Word) : (s.clearErr sel).err = clearBits s.err sel := rfl
@[simp] theorem State.clearErr_dchpri (s : State) (sel : Word) : (s.clearErr sel).dchpri = s.dchpri := rfl
@[simp] theorem State.clearErr_tcd (s : State) (sel : Word) : (s.clearErr sel).tcd = s.tcd := rfl
@[simp] theorem State.clearErr_chcfg (s : State) (sel : Word) : (s.clearErr sel).chcfg = s.chcfg := rfl
@[simp] theorem State.clearErr_inprog (s : State) (sel : Word) : (s.clearErr sel).inprog = s.inprog := rfl
@[simp] theorem State.clearErr_trg (s : State) (sel : Word) : (s.clearErr sel).trg = s.trg := rfl
@[simp] theorem State.clearErr_cur (s : State) (sel : Word) : (s.clearErr sel).cur = s.cur := rfl
@[simp] theorem State.clearErr_susp (s : State) (sel : Word) : (s.clearErr sel).susp = s.susp := rfl
@[simp] theorem State.clearErr_mem (s : State) (sel : Word) : (s.clearErr sel).mem = s.mem := rfl
@[simp] theorem State.clearErr_srcline (s : State) (sel : Word) : (s.clearErr sel).srcline = s.srcline := rfl
@[simp] theorem State.clearErr_inReset (s : State) (sel : Word) : (s.clearErr sel).inReset = s.inReset := rfl
@[simp] theorem State.clearErr_hostReply (s : State) (sel : Word) : (s.clearErr sel).hostReply = s.hostReply := rfl
@[simp] theorem State.clearErr_trace (s : State) (sel : Word) : (s.clearErr sel).trace = s.trace := rfl
@[simp] theorem State.clearErr_draws (s : State) (sel : Word) : (s.clearErr sel).draws = s.draws := rfl
@[simp] theorem State.clearErr_platform (s : State) (sel : Word) : (s.clearErr sel).platform = s.platform := rfl
@[simp] theorem State.clearErr_agenda (s : State) (sel : Word) : (s.clearErr sel).agenda = s.agenda := rfl

/-! ### `State.clearInt` -/

@[simp] theorem State.clearInt_cr (s : State) (sel : Word) : (s.clearInt sel).cr = s.cr := rfl
@[simp] theorem State.clearInt_es (s : State) (sel : Word) : (s.clearInt sel).es = s.es := rfl
@[simp] theorem State.clearInt_erq (s : State) (sel : Word) : (s.clearInt sel).erq = s.erq := rfl
@[simp] theorem State.clearInt_eei (s : State) (sel : Word) : (s.clearInt sel).eei = s.eei := rfl
@[simp] theorem State.clearInt_int (s : State) (sel : Word) : (s.clearInt sel).int = clearBits s.int sel := rfl
@[simp] theorem State.clearInt_err (s : State) (sel : Word) : (s.clearInt sel).err = s.err := rfl
@[simp] theorem State.clearInt_dchpri (s : State) (sel : Word) : (s.clearInt sel).dchpri = s.dchpri := rfl
@[simp] theorem State.clearInt_tcd (s : State) (sel : Word) : (s.clearInt sel).tcd = s.tcd := rfl
@[simp] theorem State.clearInt_chcfg (s : State) (sel : Word) : (s.clearInt sel).chcfg = s.chcfg := rfl
@[simp] theorem State.clearInt_inprog (s : State) (sel : Word) : (s.clearInt sel).inprog = s.inprog := rfl
@[simp] theorem State.clearInt_trg (s : State) (sel : Word) : (s.clearInt sel).trg = s.trg := rfl
@[simp] theorem State.clearInt_cur (s : State) (sel : Word) : (s.clearInt sel).cur = s.cur := rfl
@[simp] theorem State.clearInt_susp (s : State) (sel : Word) : (s.clearInt sel).susp = s.susp := rfl
@[simp] theorem State.clearInt_mem (s : State) (sel : Word) : (s.clearInt sel).mem = s.mem := rfl
@[simp] theorem State.clearInt_srcline (s : State) (sel : Word) : (s.clearInt sel).srcline = s.srcline := rfl
@[simp] theorem State.clearInt_inReset (s : State) (sel : Word) : (s.clearInt sel).inReset = s.inReset := rfl
@[simp] theorem State.clearInt_hostReply (s : State) (sel : Word) : (s.clearInt sel).hostReply = s.hostReply := rfl
@[simp] theorem State.clearInt_trace (s : State) (sel : Word) : (s.clearInt sel).trace = s.trace := rfl
@[simp] theorem State.clearInt_draws (s : State) (sel : Word) : (s.clearInt sel).draws = s.draws := rfl
@[simp] theorem State.clearInt_platform (s : State) (sel : Word) : (s.clearInt sel).platform = s.platform := rfl
@[simp] theorem State.clearInt_agenda (s : State) (sel : Word) : (s.clearInt sel).agenda = s.agenda := rfl

/-! ### `State.clearDone` -/

@[simp] theorem State.clearDone_cr (s : State) (sel : Word) : (s.clearDone sel).cr = s.cr := rfl
@[simp] theorem State.clearDone_es (s : State) (sel : Word) : (s.clearDone sel).es = s.es := rfl
@[simp] theorem State.clearDone_erq (s : State) (sel : Word) : (s.clearDone sel).erq = s.erq := rfl
@[simp] theorem State.clearDone_eei (s : State) (sel : Word) : (s.clearDone sel).eei = s.eei := rfl
@[simp] theorem State.clearDone_int (s : State) (sel : Word) : (s.clearDone sel).int = s.int := rfl
@[simp] theorem State.clearDone_err (s : State) (sel : Word) : (s.clearDone sel).err = s.err := rfl
@[simp] theorem State.clearDone_dchpri (s : State) (sel : Word) : (s.clearDone sel).dchpri = s.dchpri := rfl
@[simp] theorem State.clearDone_tcd (s : State) (sel : Word) : (s.clearDone sel).tcd = (s.overSlots sel (setDone · false)).tcd := rfl
@[simp] theorem State.clearDone_chcfg (s : State) (sel : Word) : (s.clearDone sel).chcfg = s.chcfg := rfl
@[simp] theorem State.clearDone_inprog (s : State) (sel : Word) : (s.clearDone sel).inprog = s.inprog := rfl
@[simp] theorem State.clearDone_trg (s : State) (sel : Word) : (s.clearDone sel).trg = s.trg := rfl
@[simp] theorem State.clearDone_cur (s : State) (sel : Word) : (s.clearDone sel).cur = s.cur := rfl
@[simp] theorem State.clearDone_susp (s : State) (sel : Word) : (s.clearDone sel).susp = s.susp := rfl
@[simp] theorem State.clearDone_mem (s : State) (sel : Word) : (s.clearDone sel).mem = s.mem := rfl
@[simp] theorem State.clearDone_srcline (s : State) (sel : Word) : (s.clearDone sel).srcline = s.srcline := rfl
@[simp] theorem State.clearDone_inReset (s : State) (sel : Word) : (s.clearDone sel).inReset = s.inReset := rfl
@[simp] theorem State.clearDone_hostReply (s : State) (sel : Word) : (s.clearDone sel).hostReply = s.hostReply := rfl
@[simp] theorem State.clearDone_trace (s : State) (sel : Word) : (s.clearDone sel).trace = s.trace := rfl
@[simp] theorem State.clearDone_draws (s : State) (sel : Word) : (s.clearDone sel).draws = s.draws := rfl
@[simp] theorem State.clearDone_platform (s : State) (sel : Word) : (s.clearDone sel).platform = s.platform := rfl
@[simp] theorem State.clearDone_agenda (s : State) (sel : Word) : (s.clearDone sel).agenda = s.agenda := rfl

/-! ### `State.startSlots` -/

@[simp] theorem State.startSlots_cr (s : State) (sel : Word) : (s.startSlots sel).cr = s.cr := rfl
@[simp] theorem State.startSlots_es (s : State) (sel : Word) : (s.startSlots sel).es = s.es := rfl
@[simp] theorem State.startSlots_erq (s : State) (sel : Word) : (s.startSlots sel).erq = s.erq := rfl
@[simp] theorem State.startSlots_eei (s : State) (sel : Word) : (s.startSlots sel).eei = s.eei := rfl
@[simp] theorem State.startSlots_int (s : State) (sel : Word) : (s.startSlots sel).int = s.int := rfl
@[simp] theorem State.startSlots_err (s : State) (sel : Word) : (s.startSlots sel).err = s.err := rfl
@[simp] theorem State.startSlots_dchpri (s : State) (sel : Word) : (s.startSlots sel).dchpri = s.dchpri := rfl
@[simp] theorem State.startSlots_tcd (s : State) (sel : Word) : (s.startSlots sel).tcd = (s.overSlots sel (setStart · true)).tcd := rfl
@[simp] theorem State.startSlots_chcfg (s : State) (sel : Word) : (s.startSlots sel).chcfg = s.chcfg := rfl
@[simp] theorem State.startSlots_inprog (s : State) (sel : Word) : (s.startSlots sel).inprog = s.inprog := rfl
@[simp] theorem State.startSlots_trg (s : State) (sel : Word) : (s.startSlots sel).trg = s.trg := rfl
@[simp] theorem State.startSlots_cur (s : State) (sel : Word) : (s.startSlots sel).cur = s.cur := rfl
@[simp] theorem State.startSlots_susp (s : State) (sel : Word) : (s.startSlots sel).susp = s.susp := rfl
@[simp] theorem State.startSlots_mem (s : State) (sel : Word) : (s.startSlots sel).mem = s.mem := rfl
@[simp] theorem State.startSlots_srcline (s : State) (sel : Word) : (s.startSlots sel).srcline = s.srcline := rfl
@[simp] theorem State.startSlots_inReset (s : State) (sel : Word) : (s.startSlots sel).inReset = s.inReset := rfl
@[simp] theorem State.startSlots_hostReply (s : State) (sel : Word) : (s.startSlots sel).hostReply = s.hostReply := rfl
@[simp] theorem State.startSlots_trace (s : State) (sel : Word) : (s.startSlots sel).trace = s.trace := rfl
@[simp] theorem State.startSlots_draws (s : State) (sel : Word) : (s.startSlots sel).draws = s.draws := rfl
@[simp] theorem State.startSlots_platform (s : State) (sel : Word) : (s.startSlots sel).platform = s.platform := rfl
@[simp] theorem State.startSlots_agenda (s : State) (sel : Word) : (s.startSlots sel).agenda = s.agenda := rfl

/-! ### `State.returns` -/

@[simp] theorem State.returns_cr {w : Nat} (s : State) (v : BitVec w) : (s.returns v).cr = s.cr := rfl
@[simp] theorem State.returns_es {w : Nat} (s : State) (v : BitVec w) : (s.returns v).es = s.es := rfl
@[simp] theorem State.returns_erq {w : Nat} (s : State) (v : BitVec w) : (s.returns v).erq = s.erq := rfl
@[simp] theorem State.returns_eei {w : Nat} (s : State) (v : BitVec w) : (s.returns v).eei = s.eei := rfl
@[simp] theorem State.returns_int {w : Nat} (s : State) (v : BitVec w) : (s.returns v).int = s.int := rfl
@[simp] theorem State.returns_err {w : Nat} (s : State) (v : BitVec w) : (s.returns v).err = s.err := rfl
@[simp] theorem State.returns_dchpri {w : Nat} (s : State) (v : BitVec w) : (s.returns v).dchpri = s.dchpri := rfl
@[simp] theorem State.returns_tcd {w : Nat} (s : State) (v : BitVec w) : (s.returns v).tcd = s.tcd := rfl
@[simp] theorem State.returns_chcfg {w : Nat} (s : State) (v : BitVec w) : (s.returns v).chcfg = s.chcfg := rfl
@[simp] theorem State.returns_inprog {w : Nat} (s : State) (v : BitVec w) : (s.returns v).inprog = s.inprog := rfl
@[simp] theorem State.returns_trg {w : Nat} (s : State) (v : BitVec w) : (s.returns v).trg = s.trg := rfl
@[simp] theorem State.returns_cur {w : Nat} (s : State) (v : BitVec w) : (s.returns v).cur = s.cur := rfl
@[simp] theorem State.returns_susp {w : Nat} (s : State) (v : BitVec w) : (s.returns v).susp = s.susp := rfl
@[simp] theorem State.returns_mem {w : Nat} (s : State) (v : BitVec w) : (s.returns v).mem = s.mem := rfl
@[simp] theorem State.returns_srcline {w : Nat} (s : State) (v : BitVec w) : (s.returns v).srcline = s.srcline := rfl
@[simp] theorem State.returns_inReset {w : Nat} (s : State) (v : BitVec w) : (s.returns v).inReset = s.inReset := rfl
@[simp] theorem State.returns_hostReply {w : Nat} (s : State) (v : BitVec w) : (s.returns v).hostReply = .value (v.setWidth 32) := rfl
@[simp] theorem State.returns_trace {w : Nat} (s : State) (v : BitVec w) : (s.returns v).trace = s.trace := rfl
@[simp] theorem State.returns_draws {w : Nat} (s : State) (v : BitVec w) : (s.returns v).draws = s.draws := rfl
@[simp] theorem State.returns_platform {w : Nat} (s : State) (v : BitVec w) : (s.returns v).platform = s.platform := rfl
@[simp] theorem State.returns_agenda {w : Nat} (s : State) (v : BitVec w) : (s.returns v).agenda = s.agenda := rfl

/-! ### `raiseChannelError` -/

@[simp] theorem raiseChannelError_cr (c : Chan) (k : List ErrKind) (s : State) : (raiseChannelError c k s).cr = { s.cr with cx := false, ecx := false } := rfl
@[simp] theorem raiseChannelError_es (c : Chan) (k : List ErrKind) (s : State) : (raiseChannelError c k s).es = errRecord c k := rfl
@[simp] theorem raiseChannelError_erq (c : Chan) (k : List ErrKind) (s : State) : (raiseChannelError c k s).erq = s.erq := rfl
@[simp] theorem raiseChannelError_eei (c : Chan) (k : List ErrKind) (s : State) : (raiseChannelError c k s).eei = s.eei := rfl
@[simp] theorem raiseChannelError_int (c : Chan) (k : List ErrKind) (s : State) : (raiseChannelError c k s).int = s.int := rfl
@[simp] theorem raiseChannelError_err (c : Chan) (k : List ErrKind) (s : State) : (raiseChannelError c k s).err = putBit s.err c.toNat true := rfl
@[simp] theorem raiseChannelError_dchpri (c : Chan) (k : List ErrKind) (s : State) : (raiseChannelError c k s).dchpri = s.dchpri := rfl
@[simp] theorem raiseChannelError_tcd (c : Chan) (k : List ErrKind) (s : State) : (raiseChannelError c k s).tcd = (s.updSlot c (setActive · false)).tcd := rfl
@[simp] theorem raiseChannelError_chcfg (c : Chan) (k : List ErrKind) (s : State) : (raiseChannelError c k s).chcfg = s.chcfg := rfl
@[simp] theorem raiseChannelError_inprog (c : Chan) (k : List ErrKind) (s : State) : (raiseChannelError c k s).inprog = putBit s.inprog c.toNat false := rfl
@[simp] theorem raiseChannelError_trg (c : Chan) (k : List ErrKind) (s : State) : (raiseChannelError c k s).trg = s.trg := rfl
@[simp] theorem raiseChannelError_cur (c : Chan) (k : List ErrKind) (s : State) : (raiseChannelError c k s).cur = none := rfl
@[simp] theorem raiseChannelError_susp (c : Chan) (k : List ErrKind) (s : State) : (raiseChannelError c k s).susp = s.susp := rfl
@[simp] theorem raiseChannelError_mem (c : Chan) (k : List ErrKind) (s : State) : (raiseChannelError c k s).mem = s.mem := rfl
@[simp] theorem raiseChannelError_srcline (c : Chan) (k : List ErrKind) (s : State) : (raiseChannelError c k s).srcline = s.srcline := rfl
@[simp] theorem raiseChannelError_inReset (c : Chan) (k : List ErrKind) (s : State) : (raiseChannelError c k s).inReset = s.inReset := rfl
@[simp] theorem raiseChannelError_hostReply (c : Chan) (k : List ErrKind) (s : State) : (raiseChannelError c k s).hostReply = s.hostReply := rfl
@[simp] theorem raiseChannelError_trace (c : Chan) (k : List ErrKind) (s : State) : (raiseChannelError c k s).trace = s.trace := rfl
@[simp] theorem raiseChannelError_draws (c : Chan) (k : List ErrKind) (s : State) : (raiseChannelError c k s).draws = s.draws := rfl
@[simp] theorem raiseChannelError_platform (c : Chan) (k : List ErrKind) (s : State) : (raiseChannelError c k s).platform = s.platform := rfl
@[simp] theorem raiseChannelError_agenda (c : Chan) (k : List ErrKind) (s : State) : (raiseChannelError c k s).agenda = s.agenda := rfl

/-! ### `State.setTrg` writes the trigger latches only -/

@[simp] theorem State.setTrg_cr (s : State) (n : Chan) (b : Bool) : (s.setTrg n b).cr = s.cr := by
  unfold State.setTrg; split <;> rfl
@[simp] theorem State.setTrg_es (s : State) (n : Chan) (b : Bool) : (s.setTrg n b).es = s.es := by
  unfold State.setTrg; split <;> rfl
@[simp] theorem State.setTrg_erq (s : State) (n : Chan) (b : Bool) : (s.setTrg n b).erq = s.erq := by
  unfold State.setTrg; split <;> rfl
@[simp] theorem State.setTrg_eei (s : State) (n : Chan) (b : Bool) : (s.setTrg n b).eei = s.eei := by
  unfold State.setTrg; split <;> rfl
@[simp] theorem State.setTrg_int (s : State) (n : Chan) (b : Bool) : (s.setTrg n b).int = s.int := by
  unfold State.setTrg; split <;> rfl
@[simp] theorem State.setTrg_err (s : State) (n : Chan) (b : Bool) : (s.setTrg n b).err = s.err := by
  unfold State.setTrg; split <;> rfl
@[simp] theorem State.setTrg_dchpri (s : State) (n : Chan) (b : Bool) : (s.setTrg n b).dchpri = s.dchpri := by
  unfold State.setTrg; split <;> rfl
@[simp] theorem State.setTrg_tcd (s : State) (n : Chan) (b : Bool) : (s.setTrg n b).tcd = s.tcd := by
  unfold State.setTrg; split <;> rfl
@[simp] theorem State.setTrg_chcfg (s : State) (n : Chan) (b : Bool) : (s.setTrg n b).chcfg = s.chcfg := by
  unfold State.setTrg; split <;> rfl
@[simp] theorem State.setTrg_inprog (s : State) (n : Chan) (b : Bool) : (s.setTrg n b).inprog = s.inprog := by
  unfold State.setTrg; split <;> rfl
theorem State.setTrg_trg (s : State) (n : Chan) (b : Bool) : (s.setTrg n b).trg = if n.toNat < 4 then putBit s.trg n.toNat b else s.trg := by
  unfold State.setTrg; split <;> rfl
@[simp] theorem State.setTrg_cur (s : State) (n : Chan) (b : Bool) : (s.setTrg n b).cur = s.cur := by
  unfold State.setTrg; split <;> rfl
@[simp] theorem State.setTrg_susp (s : State) (n : Chan) (b : Bool) : (s.setTrg n b).susp = s.susp := by
  unfold State.setTrg; split <;> rfl
@[simp] theorem State.setTrg_mem (s : State) (n : Chan) (b : Bool) : (s.setTrg n b).mem = s.mem := by
  unfold State.setTrg; split <;> rfl
@[simp] theorem State.setTrg_srcline (s : State) (n : Chan) (b : Bool) : (s.setTrg n b).srcline = s.srcline := by
  unfold State.setTrg; split <;> rfl
@[simp] theorem State.setTrg_inReset (s : State) (n : Chan) (b : Bool) : (s.setTrg n b).inReset = s.inReset := by
  unfold State.setTrg; split <;> rfl
@[simp] theorem State.setTrg_hostReply (s : State) (n : Chan) (b : Bool) : (s.setTrg n b).hostReply = s.hostReply := by
  unfold State.setTrg; split <;> rfl
@[simp] theorem State.setTrg_trace (s : State) (n : Chan) (b : Bool) : (s.setTrg n b).trace = s.trace := by
  unfold State.setTrg; split <;> rfl
@[simp] theorem State.setTrg_draws (s : State) (n : Chan) (b : Bool) : (s.setTrg n b).draws = s.draws := by
  unfold State.setTrg; split <;> rfl
@[simp] theorem State.setTrg_platform (s : State) (n : Chan) (b : Bool) : (s.setTrg n b).platform = s.platform := by
  unfold State.setTrg; split <;> rfl
@[simp] theorem State.setTrg_agenda (s : State) (n : Chan) (b : Bool) : (s.setTrg n b).agenda = s.agenda := by
  unfold State.setTrg; split <;> rfl

/-! ### `blockReset` -/

@[simp] theorem blockReset_cr (s : State) : (blockReset s).cr = .atReset := rfl
@[simp] theorem blockReset_es (s : State) : (blockReset s).es = 0 := rfl
@[simp] theorem blockReset_erq (s : State) : (blockReset s).erq = 0 := rfl
@[simp] theorem blockReset_eei (s : State) : (blockReset s).eei = 0 := rfl
@[simp] theorem blockReset_int (s : State) : (blockReset s).int = 0 := rfl
@[simp] theorem blockReset_err (s : State) : (blockReset s).err = 0 := rfl
@[simp] theorem blockReset_dchpri (s : State) : (blockReset s).dchpri = Vector.ofFn fun i => .atReset i.val := rfl
@[simp] theorem blockReset_tcd (s : State) : (blockReset s).tcd = Vector.ofFn fun i => slotUnspecified s.draws i.val := rfl
@[simp] theorem blockReset_chcfg (s : State) : (blockReset s).chcfg = Vector.replicate 32 .atReset := rfl
@[simp] theorem blockReset_inprog (s : State) : (blockReset s).inprog = 0 := rfl
@[simp] theorem blockReset_trg (s : State) : (blockReset s).trg = 0 := rfl
@[simp] theorem blockReset_cur (s : State) : (blockReset s).cur = none := rfl
@[simp] theorem blockReset_susp (s : State) : (blockReset s).susp = none := rfl
@[simp] theorem blockReset_mem (s : State) : (blockReset s).mem = s.mem := rfl
@[simp] theorem blockReset_srcline (s : State) : (blockReset s).srcline = s.srcline := rfl
@[simp] theorem blockReset_inReset (s : State) : (blockReset s).inReset = s.inReset := rfl
@[simp] theorem blockReset_hostReply (s : State) : (blockReset s).hostReply = s.hostReply := rfl
@[simp] theorem blockReset_trace (s : State) : (blockReset s).trace = s.trace := rfl
@[simp] theorem blockReset_draws (s : State) : (blockReset s).draws = s.draws + 1 := rfl
@[simp] theorem blockReset_platform (s : State) : (blockReset s).platform = s.platform := rfl
@[simp] theorem blockReset_agenda (s : State) : (blockReset s).agenda = s.agenda := rfl

end Sys2Proof.Machine
end

