-- ==== Sys2Proof/Laws/Bits.lean ====
section
/-! SUPPORT. Bits of words: what the bit operations of the model make of each bit. -/

namespace Sys2Proof.Machine

@[simp] theorem getLsbD_putBit {w : Nat} (v : BitVec w) (i j : Nat) (b : Bool) :
    (putBit v i b).getLsbD j = if i = j ∧ j < w then b else v.getLsbD j := by
  unfold putBit
  by_cases hj : j < w
  · by_cases h : i = j
    · subst h; cases b <;> simp [hj]
    · have : ¬ j = i := fun e => h e.symm
      cases b <;> simp [h, this, hj]
  · cases b <;> simp [hj, BitVec.getLsbD_of_ge _ _ (Nat.le_of_not_lt hj)]

@[simp] theorem getElem_putBit {w : Nat} (v : BitVec w) (i j : Nat) (b : Bool) (hj : j < w) :
    (putBit v i b)[j] = if i = j then b else v[j] := by
  have := getLsbD_putBit v i j b
  simpa [hj] using this

/-- Two channels have the same number exactly when they are the same. -/
@[simp] theorem chan_toNat_inj (n m : Chan) : n.toNat = m.toNat ↔ n = m := BitVec.toNat_inj

theorem chan_lt (n : Chan) : n.toNat < 32 := n.isLt

@[simp] theorem getLsbD_selOne (ch n : Chan) : (selOne ch).getLsbD n.toNat = decide (n = ch) := by
  have := chan_lt ch
  simp [selOne, BitVec.getLsbD_twoPow, this, eq_comm]

@[simp] theorem getLsbD_selAll (n : Chan) : selAll.getLsbD n.toNat = true := by
  rw [selAll, BitVec.getLsbD_allOnes]
  simpa using chan_lt n

@[simp] theorem getLsbD_setBits (r sel : Word) (i : Nat) :
    (setBits r sel).getLsbD i = (r.getLsbD i || sel.getLsbD i) := by simp [setBits]

theorem getLsbD_clearBits (r sel : Word) (i : Nat) :
    (clearBits r sel).getLsbD i = (r.getLsbD i && !sel.getLsbD i) := by
  by_cases h : i < 32
  · simp [clearBits, h]
  · simp [BitVec.getLsbD_of_ge _ _ (Nat.le_of_not_lt h)]

/-- Bit `m` of a register after bit `n` was replaced, for channel numbers. -/
theorem getLsbD_putBit_chan (v : Word) (n m : Chan) (b : Bool) :
    (putBit v n.toNat b).getLsbD m.toNat = if m = n then b else v.getLsbD m.toNat := by
  have hm := chan_lt m
  rw [getLsbD_putBit]
  by_cases h : m = n
  · subst h; simp only [hm, and_self, if_true]
  · rw [if_neg (fun e => h ((chan_toNat_inj n m).1 e.1).symm), if_neg h]

/-- A register is not zero exactly when some channel's bit is 1. -/
theorem word_ne_zero_iff (v : Word) : v ≠ 0 ↔ ∃ n : Chan, v.getLsbD n.toNat = true := by
  constructor
  · intro h
    by_contra hn
    refine h (BitVec.eq_of_getLsbD_eq fun i hi => ?_)
    have e : (BitVec.ofNat 5 i).toNat = i := by simp; omega
    have hb : v.getLsbD i = false := by
      by_contra hc
      exact hn ⟨BitVec.ofNat 5 i, by rw [e]; simpa using hc⟩
    rw [hb]; simp
  · rintro ⟨n, hn⟩ rfl
    simp at hn

/-- Every channel number is listed. -/
@[simp] theorem mem_channels (n : Chan) : n ∈ channels := by
  revert n; decide

theorem getLsbD_foldl_putBit (f : Chan → Bool) (l : List Chan) (v : Word) (n : Chan) :
    (l.foldl (fun v m => putBit v m.toNat (f m)) v).getLsbD n.toNat = if n ∈ l then f n else v.getLsbD n.toNat := by
  induction l generalizing v with
  | nil => simp
  | cons m l ih =>
    rw [List.foldl_cons, ih]
    by_cases hl : n ∈ l
    · simp [hl]
    · have := chan_lt n
      by_cases hm : m = n
      · subst hm; simp [this]
      · simp [hl, hm, Ne.symm hm]

/-- Bit `n` of a register given channel by channel. -/
@[simp] theorem getLsbD_perChannel (f : Chan → Bool) (n : Chan) : (perChannel f).getLsbD n.toNat = f n := by
  simp [perChannel, getLsbD_foldl_putBit]

/-! ### The flags of `CSR` -/

@[simp] theorem csrStart_setStart (t : Tcd) (b : Bool) : csrStart (setStart t b) = b := by simp [csrStart, setStart]
@[simp] theorem csrStart_setActive (t : Tcd) (b : Bool) : csrStart (setActive t b) = csrStart t := by
  simp [csrStart, setActive]
@[simp] theorem csrStart_setDone (t : Tcd) (b : Bool) : csrStart (setDone t b) = csrStart t := by simp [csrStart, setDone]
@[simp] theorem csrActive_setStart (t : Tcd) (b : Bool) : csrActive (setStart t b) = csrActive t := by
  simp [csrActive, setStart]
@[simp] theorem csrActive_setActive (t : Tcd) (b : Bool) : csrActive (setActive t b) = b := by
  simp [csrActive, setActive]
@[simp] theorem csrActive_setDone (t : Tcd) (b : Bool) : csrActive (setDone t b) = csrActive t := by
  simp [csrActive, setDone]
@[simp] theorem csrDone_setStart (t : Tcd) (b : Bool) : csrDone (setStart t b) = csrDone t := by simp [csrDone, setStart]
@[simp] theorem csrDone_setActive (t : Tcd) (b : Bool) : csrDone (setActive t b) = csrDone t := by
  simp [csrDone, setActive]
@[simp] theorem csrDone_setDone (t : Tcd) (b : Bool) : csrDone (setDone t b) = b := by simp [csrDone, setDone]
@[simp] theorem csrEsg_setStart (t : Tcd) (b : Bool) : csrEsg (setStart t b) = csrEsg t := by simp [csrEsg, setStart]
@[simp] theorem csrEsg_setActive (t : Tcd) (b : Bool) : csrEsg (setActive t b) = csrEsg t := by simp [csrEsg, setActive]
@[simp] theorem csrEsg_setDone (t : Tcd) (b : Bool) : csrEsg (setDone t b) = csrEsg t := by simp [csrEsg, setDone]

/-- What each bit of `CSR` holds after a host write (R241). -/
theorem getLsbD_csrWritten (old v : Half) (i : Nat) :
    (csrWritten old v).getLsbD i = if i = 6 then old.getLsbD 6 else if i = 13 then false else v.getLsbD i := by
  by_cases hi : i < 16
  · have : i ∈ List.range 16 := List.mem_range.2 hi
    simp only [show List.range 16 = [0,1,2,3,4,5,6,7,8,9,10,11,12,13,14,15] from rfl, List.mem_cons,
      List.not_mem_nil, or_false] at this
    rcases this with rfl | rfl | rfl | rfl | rfl | rfl | rfl | rfl | rfl | rfl | rfl | rfl | rfl | rfl | rfl | rfl <;>
      simp [csrWritten]
  · have h6 : i ≠ 6 := by omega
    have h13 : i ≠ 13 := by omega
    simp [h6, h13, BitVec.getLsbD_of_ge _ _ (Nat.le_of_not_lt hi)]

end Sys2Proof.Machine
end

