-- ==== Sys2Proof/Laws/Slots.lean ====
section
/-! SUPPORT. Per-channel registers: reading one after writing one. -/

namespace Sys2Proof.Machine

@[simp] theorem slot_setSlot_self (s : State) (n : Chan) (t : Tcd) : (s.setSlot n t).slot n = t := by
  simp [State.slot, State.setSlot]

theorem slot_setSlot (s : State) (n m : Chan) (t : Tcd) :
    (s.setSlot n t).slot m = if m = n then t else s.slot m := by
  by_cases h : m = n
  · subst h; simp
  · have h' : n.toNat ≠ m.toNat := fun e => h (BitVec.toNat_inj.1 e.symm)
    simp [State.slot, State.setSlot, h, Ne.symm h]

theorem slot_updSlot (s : State) (n m : Chan) (f : Tcd → Tcd) :
    (s.updSlot n f).slot m = if m = n then f (s.slot n) else s.slot m := slot_setSlot ..

@[simp] theorem slot_updSlot_self (s : State) (n : Chan) (f : Tcd → Tcd) : (s.updSlot n f).slot n = f (s.slot n) := by
  simp [slot_updSlot]

theorem slot_overSlots (s : State) (sel : Word) (f : Tcd → Tcd) (m : Chan) :
    (s.overSlots sel f).slot m = if sel.getLsbD m.toNat then f (s.slot m) else s.slot m := by
  simp [State.slot, State.overSlots]

@[simp] theorem pri_setPri_self (s : State) (n : Chan) (p : ChPri) : (s.setPri n p).pri n = p := by
  simp [State.pri, State.setPri]

theorem pri_setPri (s : State) (n m : Chan) (p : ChPri) : (s.setPri n p).pri m = if m = n then p else s.pri m := by
  by_cases h : m = n
  · subst h; simp
  · simp [State.pri, State.setPri, h, Ne.symm h]

@[simp] theorem cfg_setCfg_self (s : State) (n : Chan) (c : ChCfg) : (s.setCfg n c).cfg n = c := by
  simp [State.cfg, State.setCfg]

theorem cfg_setCfg (s : State) (n m : Chan) (c : ChCfg) : (s.setCfg n c).cfg m = if m = n then c else s.cfg m := by
  by_cases h : m = n
  · subst h; simp
  · simp [State.cfg, State.setCfg, h, Ne.symm h]

/-- A slot depends on the slots only. -/
theorem slot_congr {s t : State} (h : t.tcd = s.tcd) (n : Chan) : t.slot n = s.slot n := by
  simp [State.slot, h]

theorem pri_congr {s t : State} (h : t.dchpri = s.dchpri) (n : Chan) : t.pri n = s.pri n := by
  simp [State.pri, h]

theorem cfg_congr {s t : State} (h : t.chcfg = s.chcfg) (n : Chan) : t.cfg n = s.cfg n := by
  simp [State.cfg, h]

@[simp] theorem slot_raiseChannelError_self (c : Chan) (k : List ErrKind) (s : State) :
    (raiseChannelError c k s).slot c = setActive (s.slot c) false := by
  rw [slot_congr (raiseChannelError_tcd c k s)]; simp

theorem slot_raiseChannelError (c m : Chan) (k : List ErrKind) (s : State) :
    (raiseChannelError c k s).slot m = if m = c then setActive (s.slot c) false else s.slot m := by
  rw [slot_congr (raiseChannelError_tcd c k s), slot_updSlot]

end Sys2Proof.Machine
end

