-- ==== Sys2Proof/Laws/Memory.lean ====
section
/-! SUPPORT. Memory: one byte after a write of one byte, and the canonical form kept by every operation. -/

namespace Sys2Proof.Machine

theorem readByte_entry_append (a k : Nat) (b : Byte) (m : Memory) :
    Memory.readByte (Memory.entry a b ++ m) k =
      if k = a then (if b = unlistedByte then Memory.readByte m k else b) else Memory.readByte m k := by
  unfold Memory.entry
  by_cases hb : b = unlistedByte <;> by_cases hk : k = a <;> simp [hb, hk, Memory.readByte]

theorem readByte_of_lt (m : Memory) (lo k : Nat) (h : Memory.wfFrom lo m = true) (hk : k < lo) :
    Memory.readByte m k = unlistedByte := by
  induction m generalizing lo with
  | nil => rfl
  | cons c rest ih =>
    obtain ⟨a, v⟩ := c
    simp only [Memory.wfFrom, Bool.and_eq_true, decide_eq_true_eq] at h
    have hne : k ≠ a := by omega
    simp only [Memory.readByte, hne, if_false]
    exact ih (a + 1) h.2 (by omega)

theorem wfFrom_mono (m : Memory) {lo lo' : Nat} (h : lo' ≤ lo) (hm : Memory.wfFrom lo m = true) :
    Memory.wfFrom lo' m = true := by
  cases m with
  | nil => rfl
  | cons c rest =>
    simp only [Memory.wfFrom, Bool.and_eq_true, decide_eq_true_eq] at hm ⊢
    exact ⟨⟨⟨by omega, hm.1.1.2⟩, hm.1.2⟩, hm.2⟩

/-- In a canonical memory, a byte reads as last written and every other byte as before. -/
theorem readByte_writeByte (m : Memory) (lo a k : Nat) (b : Byte) (h : Memory.wfFrom lo m = true) :
    (m.writeByte a b).readByte k = if k = a then b else m.readByte k := by
  induction m generalizing lo with
  | nil =>
    simp only [Memory.writeByte]
    have := readByte_entry_append a k b []
    simp only [List.append_nil] at this
    rw [this]
    by_cases hb : b = unlistedByte <;> by_cases hk : k = a <;> simp [hb, hk, Memory.readByte]
  | cons c rest ih =>
    obtain ⟨k0, v⟩ := c
    have h' := h
    simp only [Memory.wfFrom, Bool.and_eq_true, decide_eq_true_eq] at h'
    simp only [Memory.writeByte]
    split
    · rename_i hlt
      rw [readByte_entry_append]
      by_cases hk : k = a
      · subst hk
        have : Memory.readByte ((k0, v) :: rest) k = unlistedByte := by
          have hne : k ≠ k0 := by omega
          simp only [Memory.readByte, hne, if_false]
          exact readByte_of_lt rest (k0 + 1) k h'.2 (by omega)
        by_cases hb : b = unlistedByte <;> simp [hb, this]
      · simp [hk]
    · split
      · rename_i _ heq
        subst heq
        rw [readByte_entry_append]
        by_cases hk : k = a
        · subst hk
          have := readByte_of_lt rest (k + 1) k h'.2 (by omega)
          by_cases hb : b = unlistedByte <;> simp [hb, this]
        · simp [hk, Memory.readByte]
      · rename_i _ hne
        simp only [Memory.readByte]
        by_cases hk : k = k0
        · subst hk
          have : ¬ k = a := fun e => hne e.symm
          simp [this]
        · simp only [hk, if_false]
          exact ih (k0 + 1) h'.2

theorem wfFrom_writeByte (m : Memory) (lo a : Nat) (b : Byte) (h : Memory.wfFrom lo m = true) (hlo : lo ≤ a)
    (ha : a < 2 ^ 32) : Memory.wfFrom lo (m.writeByte a b) = true := by
  induction m generalizing lo with
  | nil =>
    by_cases hb : b = unlistedByte <;> simp [Memory.writeByte, Memory.entry, hb, Memory.wfFrom, hlo]
    omega
  | cons c rest ih =>
    obtain ⟨k0, v⟩ := c
    have h' := h
    simp only [Memory.wfFrom, Bool.and_eq_true, decide_eq_true_eq] at h'
    simp only [Memory.writeByte]
    split
    · rename_i hlt
      by_cases hb : b = unlistedByte
      · simpa [Memory.entry, hb] using h
      · simp only [Memory.entry, hb, if_false, List.cons_append, List.nil_append, Memory.wfFrom, Bool.and_eq_true,
          decide_eq_true_eq]
        exact ⟨⟨⟨hlo, ha⟩, by simpa using hb⟩, ⟨⟨by omega, h'.1.1.2⟩, h'.1.2⟩, h'.2⟩
    · split
      · rename_i _ heq
        subst heq
        by_cases hb : b = unlistedByte
        · simpa [Memory.entry, hb] using wfFrom_mono rest (by omega) h'.2
        · simp only [Memory.entry, hb, if_false, List.cons_append, List.nil_append, Memory.wfFrom, Bool.and_eq_true,
            decide_eq_true_eq]
          exact ⟨⟨⟨hlo, ha⟩, by simpa using hb⟩, h'.2⟩
      · simp only [Memory.wfFrom, Bool.and_eq_true, decide_eq_true_eq]
        exact ⟨h'.1, ih (k0 + 1) h'.2 (by omega)⟩

/-- Storing one byte keeps the canonical form. -/
theorem wf_writeByte (m : Memory) (a : Addr) (b : Byte) (h : m.wf = true) : (m.writeByte a.toNat b).wf = true :=
  wfFrom_writeByte m 0 _ b h (Nat.zero_le _) a.isLt

/-- Storing a byte string keeps the canonical form. -/
theorem wf_write (m : Memory) (a : Addr) (bs : List Byte) (h : m.wf = true) : (m.write a bs).wf = true := by
  induction bs generalizing m a with
  | nil => exact h
  | cons b bs ih => exact ih _ _ (wf_writeByte m a b h)

/-- The memory of the reset state is canonical. -/
theorem reset_memory_wf : State.reset.mem.wf = true := rfl

theorem succ_add_ofNat (a : Addr) (i : Nat) : a + 1 + BitVec.ofNat 32 i = a + BitVec.ofNat 32 (i + 1) := by
  rw [BitVec.add_assoc]
  congr 1
  apply BitVec.eq_of_toNat_eq
  simp
  omega

/-- A run of bytes, byte by byte. -/
theorem read_eq_map (m : Memory) (a : Addr) (n : Nat) :
    m.read a n = (List.range n).map fun i => m.readByte (a + BitVec.ofNat 32 i).toNat := by
  induction n generalizing a with
  | zero => rfl
  | succ n ih =>
    rw [Memory.read, ih, List.range_succ_eq_map]
    simp only [List.map_cons, List.map_map, Function.comp_def, succ_add_ofNat]
    simp

@[simp] theorem length_read (m : Memory) (a : Addr) (n : Nat) : (m.read a n).length = n := by
  induction n generalizing a with
  | zero => rfl
  | succ n ih => simp [Memory.read, ih]

end Sys2Proof.Machine
end

