-- ==== Sys2Proof/Laws/Bus.lean ====
section
/-! SUPPORT. The bus accesses of the data mover and the host's accesses to a slot: everything each can do. -/

namespace Sys2Proof.Machine

theorem length_bytes32 (v : Word) : (bytes32 v).length = 4 := rfl

/-- A read that is done returns the bytes of the access, is recorded, and changes nothing else but the number of
draws. -/
theorem busRead_done {a : Addr} {w : Width} {s t : State} {b : List Byte} (h : busRead a w s = .done b t) :
    b.length = w.bytes ∧ ∃ d, t = { s with draws := d, trace := ⟨.read, a, w, b, true⟩ :: s.trace } := by
  unfold busRead at h
  split at h
  · cases h
  · cases h
  · cases h
    exact ⟨length_read .., s.draws, rfl⟩
  · cases h
    refine ⟨?_, s.draws + 1, rfl⟩
    cases w <;> rfl

/-- A read that the bus refuses is recorded and changes nothing else. -/
theorem busRead_error {a : Addr} {w : Width} {s t : State} (h : busRead a w s = .error t) :
    t = s.logBus ⟨.read, a, w, [], false⟩ := by
  unfold busRead at h
  split at h <;> cases h
  rfl

/-- A read of memory returns the bytes stored. -/
theorem busRead_memory {a : Addr} {w : Width} {s : State} (h : busResp s.platform a w .read = .memory) :
    busRead a w s = .done (s.mem.read a w.bytes) (s.logBus ⟨.read, a, w, s.mem.read a w.bytes, true⟩) := by
  simp [busRead, h]

/-- A write that is done is recorded, and stores its bytes or hands them to a device. -/
theorem busWrite_done {a : Addr} {w : Width} {s t : State} {b c : List Byte} (h : busWrite a w b s = .done c t) :
    ∃ m, (m = s.mem.write a b ∨ m = s.mem) ∧
      t = { s with mem := m, trace := ⟨.write, a, w, b, true⟩ :: s.trace } := by
  unfold busWrite at h
  split at h
  · cases h
  · cases h
  · cases h
    exact ⟨_, .inl rfl, rfl⟩
  · cases h
    exact ⟨_, .inr rfl, rfl⟩

/-- A write that the bus refuses is recorded and changes nothing else. -/
theorem busWrite_error {a : Addr} {w : Width} {s t : State} {b : List Byte} (h : busWrite a w b s = .error t) :
    t = s.logBus ⟨.write, a, w, b, false⟩ := by
  unfold busWrite at h
  split at h <;> cases h
  rfl

/-- A write to memory stores its bytes. -/
theorem busWrite_memory {a : Addr} {w : Width} {s : State} {b : List Byte}
    (h : busResp s.platform a w .write = .memory) :
    busWrite a w b s = .done b (({ s with mem := s.mem.write a b } : State).logBus ⟨.write, a, w, b, true⟩) := by
  simp [busWrite, h]

/-- A host access to a slot field that ends in a next state returned the field, or stored into the slot of a
channel that does not execute. -/
theorem slotAccess_next {w : Nat} {get : Tcd → BitVec w} {put : Tcd → BitVec w → Tcd} {n : Chan} {a : Access w}
    {s t : State} (h : slotAccess get put n a s = .next t) :
    (a = .read ∧ t = s.returns (get (s.slot n))) ∨
    ∃ v, a = .write v ∧ csrActive (s.slot n) = false ∧ t = (s.updSlot n (put · v)).ack := by
  cases a with
  | read => cases h; exact .inl ⟨rfl, rfl⟩
  | write v =>
    simp only [slotAccess] at h
    split at h
    · cases h
    · cases h
      exact .inr ⟨v, rfl, by simp_all, rfl⟩

/-- A host access to a slot field never faults, and is refused only as a store to an executing channel. -/
theorem slotAccess_refused {w : Nat} {get : Tcd → BitVec w} {put : Tcd → BitVec w → Tcd} {n : Chan} {a : Access w}
    {s : State} {r : Refusal} (h : slotAccess get put n a s = .refused r) :
    r = .slotBusy n ∧ csrActive (s.slot n) = true ∧ ∃ v, a = .write v := by
  cases a with
  | read => cases h
  | write v =>
    simp only [slotAccess] at h
    split at h
    · cases h
      exact ⟨rfl, by assumption, v, rfl⟩
    · cases h

end Sys2Proof.Machine
end

