-- ==== Sys2Proof/Laws/Mover.lean ====
section
/-! SUPPORT. The steps of the data mover: everything each can do when it ends in a next state. -/

namespace Sys2Proof.Machine

/-- The members of a list of greatest priority are members of it, and none is above them. -/
theorem mem_highest {s : State} {l : List Chan} {n : Chan} :
    n ∈ highest s l ↔ n ∈ l ∧ ∀ m ∈ l, prio s m ≤ prio s n := by
  simp [highest]

/-- The channel chosen is a member of greatest priority, and the state changes at most in the number of draws. -/
theorem choose_some {s t : State} {l : List Chan} {n : Chan} (h : choose s l = some (n, t)) :
    n ∈ l ∧ (∀ m ∈ l, prio s m ≤ prio s n) ∧ (t = s ∨ t = s.drawn) := by
  have key : n ∈ highest s l ∧ (t = s ∨ t = s.drawn) := by
    unfold choose at h
    split at h
    · cases h
    · rename_i k hk
      cases h
      exact ⟨by simp [hk], .inl rfl⟩
    · rename_i a b rest hl
      simp only [Option.some.injEq, Prod.mk.injEq] at h
      obtain ⟨rfl, rfl⟩ := h
      refine ⟨?_, .inr rfl⟩
      rw [hl, List.getD_eq_getElem (hn := Nat.mod_lt _ (by simp))]
      exact List.getElem_mem _
  have hm := mem_highest.1 key.1
  exact ⟨hm.1, hm.2, key.2⟩

/-- Some member of a list that is not empty has the greatest priority. -/
theorem highest_ne_nil {s : State} {l : List Chan} (h : l ≠ []) : highest s l ≠ [] := by
  obtain ⟨n, hn, hmax⟩ : ∃ n ∈ l, ∀ m ∈ l, prio s m ≤ prio s n := by
    induction l with
    | nil => exact absurd rfl h
    | cons a l ih =>
      by_cases hl : l = []
      · subst hl; exact ⟨a, by simp, by simp⟩
      · obtain ⟨n, hn, hm⟩ := ih hl
        rcases Nat.le_total (prio s a) (prio s n) with hle | hle
        · exact ⟨n, by simp [hn], by simpa [hle] using hm⟩
        · exact ⟨a, by simp, by
            intro m hmem
            rcases List.mem_cons.1 hmem with rfl | hmem
            · exact Nat.le_refl _
            · exact Nat.le_trans (hm m hmem) hle⟩
  exact List.ne_nil_of_mem (mem_highest.2 ⟨hn, hmax⟩)

/-- A channel is chosen exactly from a list that is not empty. -/
theorem choose_none {s : State} {l : List Chan} : choose s l = none ↔ l = [] := by
  constructor
  · intro h
    by_contra hl
    have := highest_ne_nil (s := s) hl
    unfold choose at h
    split at h
    · contradiction
    · cases h
    · cases h
  · rintro rfl; rfl

/-- Activation either starts the channel's context or captures the errors of the check. -/
theorem activate_cases (c : Chan) (s : State) :
    (confcheck (markActive c s) c = [] ∧ activate c s = { markActive c s with cur := some (startCtx c (s.slot c)) }) ∨
    (confcheck (markActive c s) c ≠ [] ∧
      activate c s = raiseChannelError c (confcheck (markActive c s) c) (markActive c s)) := by
  unfold activate
  split
  · exact .inl ⟨by assumption, rfl⟩
  · rename_i h
    exact .inr ⟨h, rfl⟩

theorem length_part (n : Nat) : (partWidth n).bytes ≤ 4 := by
  unfold partWidth; split <;> (try split) <;> simp [Width.bytes]

/-- A step of a source element that ends in a next state: the bus refused the part, or the part was read and the
element is complete or not. -/
theorem readElement_next {x : Ctx} {s t : State} (h : readElement x s = .next t) :
    (∃ e, t = raiseChannelError x.ch [.sbe] (s.logBus e)) ∨
    ∃ b s', busRead (x.sa + BitVec.ofNat 32 x.part.got.length) (partWidth (ssize (s.slot x.ch))) s = .done b s' ∧
      ((((x.part.got ++ b).length < ssize (s.slot x.ch)) ∧
          t = { s' with cur := some { x with part := .reading (x.part.got ++ b) } }) ∨
       (¬ (x.part.got ++ b).length < ssize (s.slot x.ch) ∧
          t = { s' with cur := some (elementRead x (s.slot x.ch) (x.part.got ++ b)) })) := by
  unfold readElement at h
  simp only at h
  split at h
  · cases h
  · rename_i s' he
    cases h
    rw [busRead_error he]
    exact .inl ⟨_, rfl⟩
  · rename_i b s' hd
    refine .inr ⟨b, s', hd, ?_⟩
    split at h <;> cases h
    · exact .inl ⟨by assumption, rfl⟩
    · exact .inr ⟨by assumption, rfl⟩

/-- A step of a destination element that ends in a next state. -/
theorem writeElement_next {x : Ctx} {s t : State} (h : writeElement x s = .next t) :
    (∃ e, t = raiseChannelError x.ch [.dbe] (s.logBus e)) ∨
    ∃ b c s', busWrite (x.da + BitVec.ofNat 32 x.part.put) (partWidth (dsize (s.slot x.ch))) b s = .done c s' ∧
      ((x.part.put + (partWidth (dsize (s.slot x.ch))).bytes < dsize (s.slot x.ch) ∧
          t = { s' with cur := some { x with part := .writing (x.part.put + (partWidth (dsize (s.slot x.ch))).bytes) } }) ∨
       (¬ x.part.put + (partWidth (dsize (s.slot x.ch))).bytes < dsize (s.slot x.ch) ∧
          t = { s' with cur := some (elementWritten x (s.slot x.ch)) })) := by
  unfold writeElement at h
  simp only at h
  split at h
  · cases h
  · rename_i s' he
    cases h
    rw [busWrite_error he]
    exact .inl ⟨_, rfl⟩
  · rename_i c s' hd
    refine .inr ⟨_, c, s', hd, ?_⟩
    split at h <;> cases h
    · exact .inl ⟨by assumption, rfl⟩
    · exact .inr ⟨by assumption, rfl⟩

/-- One read of the next descriptor that ends in a next state: the word is kept, or the refusal is. -/
theorem loadWord_next {x : Ctx} {got : List Byte} {s t : State} (h : loadWord x got s = .next t) :
    (∃ e, t = { s.logBus e with cur := some { x with part := .loadFailed } }) ∨
    ∃ b s', busRead ((s.slot x.ch).dlastSga + BitVec.ofNat 32 got.length) .four s = .done b s' ∧
      t = { s' with cur := some { x with part := .loading (got ++ b) } } := by
  unfold loadWord at h
  simp only at h
  split at h
  · cases h
  · rename_i s' he
    cases h
    rw [busRead_error he]
    exact .inl ⟨_, rfl⟩
  · rename_i b s' hd
    cases h
    exact .inr ⟨b, s', hd, rfl⟩

/-- Completion that ends in a next state: a minor loop that is not the last, the last with no link, a read of
the next descriptor, or one of the two ends of a linked major loop. -/
theorem completion_next {x : Ctx} {s t : State} (h : completion x s = .next t) :
    (newCount (s.slot x.ch) ≠ 0 ∧ t = retire x.ch (minorDone x (newCount (s.slot x.ch)) s)) ∨
    (newCount (s.slot x.ch) = 0 ∧ csrEsg (s.slot x.ch) = false ∧ t = majorDone x s) ∨
    (newCount (s.slot x.ch) = 0 ∧ csrEsg (s.slot x.ch) = true ∧ x.part = .loadFailed ∧ t = majorDoneFailed x s) ∨
    (newCount (s.slot x.ch) = 0 ∧ csrEsg (s.slot x.ch) = true ∧
      ∃ got, x.part = .loading got ∧ ¬ got.length < 32 ∧ t = majorDoneLoad x got s) ∨
    (newCount (s.slot x.ch) = 0 ∧ csrEsg (s.slot x.ch) = true ∧ ∃ got, loadWord x got s = .next t ∧
      ((x.part = .loading got ∧ got.length < 32) ∨
       (got = [] ∧ x.part ≠ .loadFailed ∧ ∀ g, x.part ≠ .loading g))) := by
  unfold completion at h
  simp only at h
  split at h
  · cases h
    exact .inl ⟨by assumption, rfl⟩
  · rename_i hc
    have hc' : newCount (s.slot x.ch) = 0 := by simpa using hc
    split at h
    · rename_i he
      unfold majorLinked at h
      split at h
      · rename_i hp
        cases h
        exact .inr (.inr (.inl ⟨hc', he, hp, rfl⟩))
      · rename_i got hp
        split at h
        · exact .inr (.inr (.inr (.inr ⟨hc', he, got, h, .inl ⟨hp, by assumption⟩⟩)))
        · cases h
          exact .inr (.inr (.inr (.inl ⟨hc', he, got, hp, by assumption, rfl⟩)))
      · rename_i hp hq
        exact .inr (.inr (.inr (.inr ⟨hc', he, [], h, .inr ⟨rfl, hp, hq⟩⟩)))
    · rename_i he
      cases h
      exact .inr (.inl ⟨hc', by simpa using he, rfl⟩)

/-- The table of R145: the data mover's step that ends in a next state is one of these. -/
theorem moverStep_next {s t : State} (h : moverStep s = .next t) :
    (∃ y, s.cur = none ∧ s.susp = some y ∧ t = { s with cur := some y, susp := none }) ∨
    (s.cur = none ∧ s.susp = none ∧ t = arbitrate s) ∨
    (∃ x, s.cur = some x ∧ x.wr = true ∧ writeElement x s = .next t) ∨
    (∃ x, s.cur = some x ∧ x.wr = false ∧ x.rem = 0 ∧ completion x s = .next t) ∨
    (∃ x k s', s.cur = some x ∧ x.wr = false ∧ x.rem ≠ 0 ∧ atBoundary x = true ∧
      choose s (preemptors s x.ch) = some (k, s') ∧ t = activate k { s' with susp := some x, cur := none }) ∨
    (∃ x, s.cur = some x ∧ x.wr = false ∧ x.rem ≠ 0 ∧ readElement x s = .next t) := by
  unfold moverStep at h
  split at h
  · rename_i hc
    split at h
    · rename_i y hs
      cases h
      exact .inl ⟨y, hc, hs, rfl⟩
    · rename_i hs
      cases h
      exact .inr (.inl ⟨hc, hs, rfl⟩)
  · rename_i x hc
    split at h
    · exact .inr (.inr (.inl ⟨x, hc, by assumption, h⟩))
    · rename_i hw
      have hw' : x.wr = false := by simpa using hw
      split at h
      · exact .inr (.inr (.inr (.inl ⟨x, hc, hw', by assumption, h⟩)))
      · rename_i hr
        split at h
        · rename_i hb
          unfold boundaryStep at h
          split at h
          · rename_i k s' hk
            cases h
            exact .inr (.inr (.inr (.inr (.inl ⟨x, k, s', hc, hw', hr, hb, hk, rfl⟩))))
          · exact .inr (.inr (.inr (.inr (.inr ⟨x, hc, hw', hr, h⟩))))
        · exact .inr (.inr (.inr (.inr (.inr ⟨x, hc, hw', hr, h⟩))))

/-- A step of the machine that ends in a next state: the data mover's turn, or the first event of the agenda. -/
theorem step_next {s t : State} (h : step s = .next t) :
    (s.agenda = [] ∧ moverTurn s = .next t) ∨
    ∃ e rest, s.agenda = e :: rest ∧ runEvent e { s with agenda := rest } = .next t := by
  unfold step nextStep at h
  split at h
  · exact .inl ⟨by assumption, h⟩
  · rename_i e rest ha
    exact .inr ⟨e, rest, ha, h⟩

/-- A host operation that ends in a next state is the decoded operation, a bus error to the host, a load of a
command register, or no access at all. -/
theorem hostOperation_next {f : Format} {bytes : List Byte} {s t : State} (h : hostOperation f bytes s = .next t) :
    s.inReset = false ∧
    ((∃ i, decode f bytes = .ok i ∧ exec i s = .next t) ∨ t = s.hostBusError ∨ t = s.returns (0 : Byte) ∨ t = s) := by
  unfold hostOperation at h
  split at h
  · cases h
  · rename_i hr
    refine ⟨by simpa using hr, ?_⟩
    split at h
    · exact .inl ⟨_, by assumption, h⟩
    all_goals cases h; simp

end Sys2Proof.Machine
end

