-- ==== Sys2Proof/Laws/Check.lean ====
section
/-! SUPPORT. The configuration check and the flags that activation writes. -/

namespace Sys2Proof.Machine

/-- A kind is reported exactly when its condition holds. -/
theorem mem_kindIf (b : Bool) (k k' : ErrKind) : k' ∈ kindIf b k ↔ b = true ∧ k' = k := by
  cases b <;> simp [kindIf]

/-- A list holds a priority twice exactly when it has a repetition. -/
theorem hasDuplicate_iff (l : List (BitVec 4)) : hasDuplicate l = true ↔ ¬ l.Nodup := by
  induction l with
  | nil => simp [hasDuplicate]
  | cons a l ih =>
    simp only [hasDuplicate, Bool.or_eq_true, ih, List.contains_eq_mem, decide_eq_true_eq, List.nodup_cons]
    tauto

/-- The slots after activation has written its flags: those of the activated channel differ. -/
theorem slot_markActive (c m : Chan) (s : State) :
    (markActive c s).slot m = if m = c then setActive (setDone (setStart (s.slot c) false) false) true else s.slot m := by
  rw [markActive, slot_congr (State.setTrg_tcd ..)]
  exact slot_updSlot s c m fun t => setActive (setDone (setStart t false) false) true

/-- Activation clears the trigger latch of the activated channel only. -/
theorem trg_markActive (c m : Chan) (s : State) :
    (markActive c s).trg.getLsbD m.toNat = if m = c then false else s.trg.getLsbD m.toNat := by
  rw [markActive, State.setTrg_trg]
  split
  · rename_i h
    rw [getLsbD_putBit]
    by_cases hm : m = c
    · subst hm; simp only [h, and_self, if_true]
    · rw [if_neg (fun e => hm ((chan_toNat_inj c m).1 e.1).symm), if_neg hm]; rfl
  · by_cases hm : m = c
    · subst hm
      rw [if_pos rfl]
      exact BitVec.getLsbD_of_ge _ _ (by omega)
    · rw [if_neg hm]; rfl

/-- Activation's flags change the slots, the chain bits and the trigger latches and nothing else. -/
theorem markActive_eq (c : Chan) (s : State) :
    markActive c s =
      { s with tcd := (markActive c s).tcd, inprog := putBit s.inprog c.toNat true, trg := (markActive c s).trg } := by
  unfold markActive State.setTrg
  split <;> rfl

/-- The check reads nothing that activation's flags change. -/
theorem confcheck_markActive (c : Chan) (s : State) : confcheck (markActive c s) c = confcheck s c := by
  have hcr : (markActive c s).cr = s.cr := by rw [markActive_eq]
  have hpri : ∀ n, (markActive c s).pri n = s.pri n := fun n => pri_congr (by rw [markActive_eq]) n
  simp only [confcheck, slotErrors, priorityErrors, chpriCollision, groupChpris, hcr, hpri, slot_markActive, if_true,
    csrEsg_setActive, csrEsg_setDone, csrEsg_setStart]
  rfl

/-- The stored bits of an error record: one for each kind, and the channel's number. -/
theorem getLsbD_foldl_kinds (l : List ErrKind) (v : BitVec 17) (i : Nat) (hi : i < 17) :
    (l.foldl (fun r k => r ||| BitVec.twoPow 17 k.code) v).getLsbD i = true ↔
      v.getLsbD i = true ∨ ∃ k ∈ l, k.code = i := by
  induction l generalizing v with
  | nil => simp
  | cons k l ih =>
    rw [List.foldl_cons, ih, BitVec.getLsbD_or, BitVec.getLsbD_twoPow]
    have hk : (decide (k.code < 17) && decide (k.code = i)) = true ↔ k.code = i := by
      simp only [Bool.and_eq_true, decide_eq_true_eq]
      omega
    simp only [Bool.or_eq_true, hk, List.mem_cons, exists_eq_or_imp, or_assoc]

end Sys2Proof.Machine
end

