-- ==== Sys2Proof/Laws/Completion.lean ====
section
/-! SUPPORT. The completions of a minor and of a major loop: every slot and every other part of the state after
them. -/

namespace Sys2Proof.Machine

/-! ### The count of a descriptor (R113) -/

/-- The bits above the count field are kept (R113). -/
theorem getLsbD_setCount (x c : Half) (i : Nat) :
    (setCount x c).getLsbD i =
      if i < (if elink x then 9 else 15) then c.getLsbD i else x.getLsbD i := by
  by_cases h16 : i < 16
  · cases he : elink x <;> simp only [setCount, he, if_true, if_false, Bool.false_eq_true, BitVec.getLsbD_or, BitVec.getLsbD_and] <;>
      interval_cases i <;> simp
  · have hx : ∀ v : Half, v.getLsbD i = false := fun v => BitVec.getLsbD_of_ge _ _ (Nat.le_of_not_lt h16)
    simp [hx]

/-- The form of an iteration-count word stays. -/
theorem elink_setCount (x c : Half) : elink (setCount x c) = elink x := by
  have h := getLsbD_setCount x c 15
  have : ¬ 15 < (if elink x then 9 else 15) := by split <;> omega
  rwa [if_neg this] at h

/-- The count is the word modulo the range of its form (R113). -/
theorem count_toNat (x : Half) : (count x).toNat = x.toNat % (if elink x then 512 else 32768) := by
  unfold count
  split <;> simp <;> omega

/-- The count read back is the one written, modulo the range of the form (R113). -/
theorem count_setCount (x c : Half) : (count (setCount x c)).toNat = c.toNat % (if elink x then 512 else 32768) := by
  have hb : ∀ i, i < (if elink x then 9 else 15) → (setCount x c).toNat.testBit i = c.toNat.testBit i := by
    intro i hi
    have := getLsbD_setCount x c i
    rw [if_pos hi] at this
    exact this
  rw [count_toNat, elink_setCount]
  have hp : (if elink x = true then 512 else 32768) = 2 ^ (if elink x then 9 else 15) := by split <;> rfl
  rw [hp]
  apply Nat.eq_of_testBit_eq
  intro i
  rw [Nat.testBit_mod_two_pow, Nat.testBit_mod_two_pow]
  by_cases hi : i < (if elink x then 9 else 15)
  · simp only [hi, hb i hi]
  · simp only [hi, decide_false, Bool.false_and]

/-- A count less one stays in its field, but for a count of 0 (R113, R161). -/
theorem count_setCount_pred (x : Half) (h : count x ≠ 0) : (count (setCount x (count x - 1))).toNat + 1 = (count x).toNat := by
  have h0 : (count x).toNat ≠ 0 := fun e => h (BitVec.eq_of_toNat_eq e)
  have hlt : (count x).toNat < (if elink x then 512 else 32768) := by rw [count_toNat]; exact Nat.mod_lt _ (by split <;> omega)
  rw [count_setCount]
  have hs : (count x - 1).toNat = (count x).toNat - 1 := by
    have := (count x).isLt
    rw [BitVec.toNat_sub]; simp; omega
  rw [hs, Nat.mod_eq_of_lt (by omega)]
  omega

/-! ### Slots and latches after a completion -/

/-- A link sets `START` of its channel and changes nothing else. -/
theorem slot_linkTo (k m : Chan) (s : State) : (linkTo k s).slot m = if m = k then setStart (s.slot m) true else s.slot m := by
  rw [linkTo, slot_updSlot]
  by_cases h : m = k
  · subst h; rfl
  · rw [if_neg h, if_neg h]

/-- Without a pending cancel a completion ends with no channel executing and nothing else. -/
theorem retire_of_no_cancel {c : Chan} {s : State} (hcx : s.cr.cx = false) (hecx : s.cr.ecx = false) :
    retire c s = { s with cur := none } := by
  simp [retire, cancelCheck, hcx, hecx]

/-- The slots after a minor loop that is not the last: the channel's own, and the linked channel's `START`. -/
theorem slot_minorDone (x : Ctx) (newc : Half) (s : State) (m : Chan) :
    (minorDone x newc s).slot m =
      let t := if m = x.ch then slotAfterMinor x (s.slot x.ch) newc else s.slot m
      if elink (s.slot x.ch).citer = true ∧ m = linkCh (s.slot x.ch).citer then setStart t true else t := by
  have hbase : ∀ b : Bool, ∀ v, State.slot (if b = true then { s.setSlot x.ch (slotAfterMinor x (s.slot x.ch) newc) with int := v }
      else s.setSlot x.ch (slotAfterMinor x (s.slot x.ch) newc)) m =
      if m = x.ch then slotAfterMinor x (s.slot x.ch) newc else s.slot m := by
    intro b v
    cases b <;> exact slot_setSlot ..
  unfold minorDone
  by_cases he : elink (s.slot x.ch).citer = true
  · simp only [he, if_true, true_and, slot_linkTo]
    rw [hbase]
  · simp only [he, false_and, if_false, Bool.false_eq_true]
    exact hbase _ _

/-- A minor loop that is not the last changes the slots and, half-way, the interrupt latch. -/
theorem minorDone_eq (x : Ctx) (newc : Half) (s : State) :
    minorDone x newc s =
      { s with
        tcd := (minorDone x newc s).tcd
        int := if halfComplete (s.slot x.ch) newc then putBit s.int x.ch.toNat true else s.int } := by
  unfold minorDone linkTo
  simp only
  split <;> split <;> rfl

/-- The slots after the commit of a major loop: the channel's own, and the linked channel's `START`. -/
theorem slot_majorCommit (x : Ctx) (s : State) (m : Chan) :
    (majorCommit x s).slot m =
      let t := if m = x.ch then slotAfterMajor x (s.slot x.ch) else s.slot m
      if csrMajorElink (s.slot x.ch) = true ∧ m = csrMajorLinkCh (s.slot x.ch) then setStart t true else t := by
  unfold majorCommit
  simp only
  have hbase : (s.setSlot x.ch (slotAfterMajor x (s.slot x.ch))).slot m =
      if m = x.ch then slotAfterMajor x (s.slot x.ch) else s.slot m := slot_setSlot ..
  by_cases he : csrMajorElink (s.slot x.ch) = true
  · simp only [he, if_true, true_and, slot_linkTo]
    rw [← hbase]
    cases csrIntMajor (s.slot x.ch) <;> cases csrDreq (s.slot x.ch) <;> rfl
  · simp only [he, false_and, if_false, Bool.false_eq_true]
    rw [← hbase]
    cases csrIntMajor (s.slot x.ch) <;> cases csrDreq (s.slot x.ch) <;> rfl

/-- The commit of a major loop changes the slots, the interrupt latch and the request enable. -/
theorem majorCommit_eq (x : Ctx) (s : State) :
    majorCommit x s =
      { s with
        tcd := (majorCommit x s).tcd
        int := if csrIntMajor (s.slot x.ch) then putBit s.int x.ch.toNat true else s.int
        erq := if csrDreq (s.slot x.ch) then putBit s.erq x.ch.toNat false else s.erq } := by
  unfold majorCommit linkTo
  simp only
  cases csrMajorElink (s.slot x.ch) <;> cases csrIntMajor (s.slot x.ch) <;> cases csrDreq (s.slot x.ch) <;> rfl

end Sys2Proof.Machine
end

