-- ==== Sys2Proof/Laws/Encoding.lean ====
section
/-! SUPPORT. Byte order and the offsets of registers: what the encoder writes, the decoder's pieces read back. -/

namespace Sys2Proof.Machine

/-- The two bytes of a 16-bit value, put together. -/
theorem concat_bytes16 (v : Half) : (v.extractLsb' 8 8 ++ v.extractLsb' 0 8 : Half) = v := by
  apply BitVec.eq_of_getLsbD_eq
  intro i hi
  rw [BitVec.getLsbD_append]
  by_cases h : i < 8
  · simp [h]
  · simp [h, show i - 8 < 8 by omega, show 8 + (i - 8) = i by omega]

/-- The four bytes of a 32-bit value, put together. -/
theorem concat_bytes32 (v : Word) :
    (v.extractLsb' 24 8 ++ v.extractLsb' 16 8 ++ v.extractLsb' 8 8 ++ v.extractLsb' 0 8 : Word) = v := by
  apply BitVec.eq_of_getLsbD_eq
  intro i hi
  simp only [BitVec.getLsbD_append, BitVec.getLsbD_extractLsb']
  by_cases h0 : i < 8
  · simp [h0]
  by_cases h1 : i < 16
  · simp [h0, show i - 8 < 8 by omega, show 8 + (i - 8) = i by omega]
  by_cases h2 : i < 24
  · simp [h0, show ¬ i - 8 < 8 by omega, show i - 8 - 8 < 8 by omega, show 16 + (i - 8 - 8) = i by omega]
  · simp [h0, show ¬ i - 8 < 8 by omega, show ¬ i - 8 - 8 < 8 by omega, show i - 8 - 8 - 8 < 8 by omega,
      show 24 + (i - 8 - 8 - 8) = i by omega]

/-- The offset of a register selects it (R121). -/
theorem engSelect_engOffset (r : EngReg) : engSelect (engOffset r) = some r := by
  cases r with
  | command k => revert k; decide
  | dchpri n => revert n; decide
  | slot n f => cases f <;> (revert n; decide)
  | _ => decide

/-- The operand byte of a descriptor word names its slot and selector. -/
theorem slotByte_fields (n : Chan) (b : Bool) :
    (slotByte n b).extractLsb' 0 5 = n ∧ (slotByte n b).getLsbD 7 = b := by
  revert n b; decide

/-- A mask of the bits from `k` up leaves what division by `2^k` leaves. -/
theorem and_highMask {off m v : Half} (k : Nat) (hk : k ≤ 16) (hm : m.toNat = (2 ^ (16 - k) - 1) * 2 ^ k) (h : off &&& m = v) :
    off.toNat / 2 ^ k * 2 ^ k = v.toNat := by
  rw [← h, BitVec.toNat_and, hm]
  apply Nat.eq_of_testBit_eq
  intro i
  rw [Nat.testBit_and, Nat.testBit_mul_two_pow, Nat.testBit_mul_two_pow, Nat.testBit_two_pow_sub_one, Nat.testBit_div_two_pow]
  by_cases h1 : k ≤ i
  · by_cases h2 : i - k < 16 - k
    · simp [h1, h2]
    · have : off.toNat.testBit i = false :=
        Nat.testBit_lt_two_pow (Nat.lt_of_lt_of_le off.isLt (Nat.pow_le_pow_right (by omega) (by omega)))
      simp [h1, h2, this]
  · simp [h1]

/-- A field's place in a slot: its offset and its width are a pair of R31's table. -/
theorem slotFieldAt_table {f : BitVec 5} {x : SlotField} (h : slotFieldAt f = some x) :
    slotFieldWidth x = 4 ∧ f.toNat ∈ [0x00, 0x08, 0x0C, 0x10, 0x18] ∨
    slotFieldWidth x = 2 ∧ f.toNat ∈ [0x04, 0x06, 0x14, 0x16, 0x1C, 0x1E] := by
  revert x; revert f; decide

/-- The register that an offset selects is the one of R121's table, at its own width. -/
theorem engSelect_table {off : Half} {r : EngReg} (h : engSelect off = some r) :
    (engWidth r = 4 ∧ off.toNat ∈ [0x0000, 0x0004, 0x000C, 0x0014, 0x0024, 0x002C, 0x0034]) ∨
    (engWidth r = 1 ∧ (0x0018 ≤ off.toNat ∧ off.toNat ≤ 0x001F ∨ 0x0100 ≤ off.toNat ∧ off.toNat ≤ 0x011F)) ∨
    (0x1000 ≤ off.toNat ∧ off.toNat ≤ 0x13FF ∧
      (engWidth r = 4 ∧ off.toNat % 0x20 ∈ [0x00, 0x08, 0x0C, 0x10, 0x18] ∨
       engWidth r = 2 ∧ off.toNat % 0x20 ∈ [0x04, 0x06, 0x14, 0x16, 0x1C, 0x1E])) := by
  unfold engSelect at h
  iterate 7
    split at h
    · rename_i e
      subst e
      cases h
      exact .inl ⟨rfl, by decide⟩
  split at h
  · rename_i e
    cases h
    have e := and_highMask 3 (by decide) (by rfl) e
    rw [show BitVec.toNat (24 : Half) = 24 from rfl] at e
    exact .inr (.inl ⟨rfl, by omega⟩)
  split at h
  · rename_i e
    cases h
    have e := and_highMask 5 (by decide) (by rfl) e
    rw [show BitVec.toNat (256 : Half) = 256 from rfl] at e
    exact .inr (.inl ⟨rfl, by omega⟩)
  split at h
  · rename_i e
    have e := and_highMask 10 (by decide) (by rfl) e
    rw [show BitVec.toNat (4096 : Half) = 4096 from rfl] at e
    obtain ⟨x, hx, rfl⟩ := Option.map_eq_some_iff.mp h
    have hm : (off.extractLsb' 0 5).toNat = off.toNat % 0x20 := by simp
    exact .inr (.inr ⟨by omega, by omega, hm ▸ slotFieldAt_table hx⟩)
  · cases h

end Sys2Proof.Machine
end

