-- ==== Sys2Proof/Laws/PerInstr.lean ====
section
/-! SUPPORT. Statements about every operation, one lemma per constructor of `Instr`. -/

namespace Sys2Proof.Laws.EncodedLength

/-- The encoder writes as many bytes as the operation's format has (R128). -/
def Statement (i : Instr) : Prop := (encode i).2.length = formatLength (encode i).1

theorem ceei (ch : Chan) : Statement (.ceei ch) := rfl
theorem ceeiAll : Statement (.ceeiAll) := rfl
theorem ceeiNop : Statement (.ceeiNop) := rfl
theorem seei (ch : Chan) : Statement (.seei ch) := rfl
theorem seeiAll : Statement (.seeiAll) := rfl
theorem seeiNop : Statement (.seeiNop) := rfl
theorem cerq (ch : Chan) : Statement (.cerq ch) := rfl
theorem cerqAll : Statement (.cerqAll) := rfl
theorem cerqNop : Statement (.cerqNop) := rfl
theorem serq (ch : Chan) : Statement (.serq ch) := rfl
theorem serqAll : Statement (.serqAll) := rfl
theorem serqNop : Statement (.serqNop) := rfl
theorem cdne (ch : Chan) : Statement (.cdne ch) := rfl
theorem cdneAll : Statement (.cdneAll) := rfl
theorem cdneNop : Statement (.cdneNop) := rfl
theorem ssrt (ch : Chan) : Statement (.ssrt ch) := rfl
theorem ssrtAll : Statement (.ssrtAll) := rfl
theorem ssrtNop : Statement (.ssrtNop) := rfl
theorem cerr (ch : Chan) : Statement (.cerr ch) := rfl
theorem cerrAll : Statement (.cerrAll) := rfl
theorem cerrNop : Statement (.cerrNop) := rfl
theorem cint (ch : Chan) : Statement (.cint ch) := rfl
theorem cintAll : Statement (.cintAll) := rfl
theorem cintNop : Statement (.cintNop) := rfl
theorem cr (a : Access 32) : Statement (.cr a) := by cases a <;> rfl
theorem es (a : Access 32) : Statement (.es a) := by cases a <;> rfl
theorem erq (a : Access 32) : Statement (.erq a) := by cases a <;> rfl
theorem eei (a : Access 32) : Statement (.eei a) := by cases a <;> rfl
theorem int (a : Access 32) : Statement (.int a) := by cases a <;> rfl
theorem err (a : Access 32) : Statement (.err a) := by cases a <;> rfl
theorem hrs (a : Access 32) : Statement (.hrs a) := by cases a <;> rfl
theorem dchpri (n : Chan) (a : Access 8) : Statement (.dchpri n a) := by cases a <;> rfl
theorem tcdSaddr (n : Chan) (a : Access 32) : Statement (.tcdSaddr n a) := by cases a <;> rfl
theorem tcdSoff (n : Chan) (a : Access 16) : Statement (.tcdSoff n a) := by cases a <;> rfl
theorem tcdAttr (n : Chan) (a : Access 16) : Statement (.tcdAttr n a) := by cases a <;> rfl
theorem tcdNbytes (n : Chan) (a : Access 32) : Statement (.tcdNbytes n a) := by cases a <;> rfl
theorem tcdSlast (n : Chan) (a : Access 32) : Statement (.tcdSlast n a) := by cases a <;> rfl
theorem tcdDaddr (n : Chan) (a : Access 32) : Statement (.tcdDaddr n a) := by cases a <;> rfl
theorem tcdDoff (n : Chan) (a : Access 16) : Statement (.tcdDoff n a) := by cases a <;> rfl
theorem tcdCiter (n : Chan) (a : Access 16) : Statement (.tcdCiter n a) := by cases a <;> rfl
theorem tcdDlastSga (n : Chan) (a : Access 32) : Statement (.tcdDlastSga n a) := by cases a <;> rfl
theorem tcdCsr (n : Chan) (a : Access 16) : Statement (.tcdCsr n a) := by cases a <;> rfl
theorem tcdBiter (n : Chan) (a : Access 16) : Statement (.tcdBiter n a) := by cases a <;> rfl
theorem chcfg (n : Chan) (a : Access 32) : Statement (.chcfg n a) := by cases a <;> rfl
theorem tcd (n : Chan) (d : Tcd) : Statement (.tcd n d) := rfl
theorem attr (n : Chan) (w : AttrWord) : Statement (.attr n w) := rfl
theorem nbytesPlain (n : Chan) (count : BitVec 30) : Statement (.nbytesPlain n count) := rfl
theorem nbytesOff (n : Chan) (smloe dmloe : Bool) (mloff : BitVec 20) (count : BitVec 10) : Statement (.nbytesOff n smloe dmloe mloff count) := rfl
theorem iterPlain (n : Chan) (f : IterField) (count : BitVec 15) : Statement (.iterPlain n f count) := rfl
theorem iterLink (n : Chan) (f : IterField) (rsvd : Bool) (linkCh : Chan) (count : BitVec 9) : Statement (.iterLink n f rsvd linkCh count) := rfl
theorem csr (n : Chan) (w : CsrWord) : Statement (.csr n w) := rfl
theorem dlast (n : Chan) (adjustment : Word) : Statement (.dlast n adjustment) := rfl
theorem sga (n : Chan) (link : BitVec 27) : Statement (.sga n link) := rfl

end Sys2Proof.Laws.EncodedLength
end

