-- ==== Sys2Proof/Tests/Slice0.lean ====
section
/-! SUPPORT. Tests of one step each, the words of the spec's tables decoded, and for every statement with
hypotheses a state and operands that meet them. Expected values are the spec's tables and vectors (named in the
comments) or follow by hand from the rule named. -/

namespace Sys2Proof.Tests

open Sys2Proof Sys2Proof.Machine Sys2Proof.Safety

/-! ### Helpers -/

/-- A part of the next state, if there is one. -/
def got {α : Type} (o : Out) (f : State → α) : Option α :=
  match o with
  | .next s => some (f s)
  | _ => none

/-- The refusal of an operation, if it is refused. -/
def refusal (o : Out) : Option Refusal :=
  match o with
  | .refused r => some r
  | _ => none

/-- The base descriptor of vectors B (R141): 16 bytes of 4-byte elements, one minor loop. -/
def base : Tcd where
  saddr := 0x20000000
  soff := 4
  attr := 0x0202
  nbytes := 16
  slast := 0
  daddr := 0x20001000
  doff := 4
  citer := 1
  dlastSga := 0
  csr := 0
  biter := 1

/-- The reset state with a descriptor in a slot. -/
def holding (n : Chan) (t : Tcd) : State := State.reset.setSlot n t

/-- A context of the base descriptor, at its start. -/
def ctx (c : Chan) : Ctx := { ch := c, rem := 16, sa := 0x20000000, da := 0x20001000, fifo := [], wr := false, part := .idle }

/-- A state in which a channel executes a descriptor. -/
def running (x : Ctx) (t : Tcd) : State := { holding x.ch (setActive t true) with cur := some x }

/-- A context that has moved its whole minor loop. -/
def finished (c : Chan) : Ctx := { ctx c with rem := 0, sa := 0x20000010, da := 0x20001010 }

/-- A platform in which every address answers alike. -/
def answering (a : Answer) (s : State) : State := { s with platform := { s.platform with other := a } }

/-! ### Ill-formed terms are refused -/

theorem test_wellFormed_refuses_offset_form_without_enable : WellFormed (.nbytesOff 3 false false 1 8) = false := by decide
theorem test_wellFormed_takes_either_enable :
    WellFormed (.nbytesOff 3 true false 1 8) = true ∧ WellFormed (.nbytesOff 3 false true 1 8) = true := by decide

/-! ### Words written out from the tables of R110 to R122 (vectors A) -/

theorem test_decode_commands_one :
    decode .cmd8 [0x05, 0x18] = .ok (.ceei 5) ∧ decode .cmd8 [0x1F, 0x19] = .ok (.seei 31) ∧
    decode .cmd8 [0x00, 0x1A] = .ok (.cerq 0) ∧ decode .cmd8 [0x25, 0x1B] = .ok (.serq 5) ∧
    decode .cmd8 [0x11, 0x1C] = .ok (.cdne 17) ∧ decode .cmd8 [0x02, 0x1D] = .ok (.ssrt 2) ∧
    decode .cmd8 [0x0C, 0x1E] = .ok (.cerr 12) ∧ decode .cmd8 [0x09, 0x1F] = .ok (.cint 9) := by decide

theorem test_decode_commands_all :
    decode .cmd8 [0x40, 0x18] = .ok .ceeiAll ∧ decode .cmd8 [0x5F, 0x19] = .ok .seeiAll ∧
    decode .cmd8 [0x40, 0x1A] = .ok .cerqAll ∧ decode .cmd8 [0x40, 0x1B] = .ok .serqAll ∧
    decode .cmd8 [0x40, 0x1C] = .ok .cdneAll ∧ decode .cmd8 [0x40, 0x1D] = .ok .ssrtAll ∧
    decode .cmd8 [0x40, 0x1E] = .ok .cerrAll ∧ decode .cmd8 [0x60, 0x1F] = .ok .cintAll := by decide

theorem test_decode_commands_nop :
    decode .cmd8 [0x80, 0x18] = .ok .ceeiNop ∧ decode .cmd8 [0x9F, 0x19] = .ok .seeiNop ∧
    decode .cmd8 [0xFF, 0x1A] = .ok .cerqNop ∧ decode .cmd8 [0xC5, 0x1B] = .ok .serqNop ∧
    decode .cmd8 [0x80, 0x1C] = .ok .cdneNop ∧ decode .cmd8 [0x80, 0x1D] = .ok .ssrtNop ∧
    decode .cmd8 [0x80, 0x1E] = .ok .cerrNop ∧ decode .cmd8 [0x80, 0x1F] = .ok .cintNop := by decide

theorem test_decode_engine_registers :
    decode .eng16 [0x00, 0x00, 0x01, 0x00, 0x05, 0x00, 0x00] = .ok (.cr (.write 0x0500)) ∧
    decode .eng16 [0x04, 0x00, 0x00, 0, 0, 0, 0] = .ok (.es .read) ∧
    decode .eng16 [0x0C, 0x00, 0x07, 0x24, 0, 0, 0] = .ok (.erq (.write 0x24)) ∧
    decode .eng16 [0x14, 0x00, 0x00, 0, 0, 0, 0] = .ok (.eei .read) ∧
    decode .eng16 [0x24, 0x00, 0x01, 0, 0, 0, 0x80] = .ok (.int (.write 0x80000000)) ∧
    decode .eng16 [0x2C, 0x00, 0x00, 0, 0, 0, 0] = .ok (.err .read) ∧
    decode .eng16 [0x34, 0x00, 0x00, 0, 0, 0, 0] = .ok (.hrs .read) ∧
    decode .eng16 [0x03, 0x01, 0x01, 0x8F, 0, 0, 0] = .ok (.dchpri 0 (.write 0x8F)) ∧
    decode .eng16 [0x1C, 0x01, 0x00, 0, 0, 0, 0] = .ok (.dchpri 31 .read) := by decide

theorem test_decode_slot_fields :
    decode .eng16 [0x00, 0x10, 0x01, 0x04, 0x03, 0x02, 0x20] = .ok (.tcdSaddr 0 (.write 0x20020304)) ∧
    decode .eng16 [0x24, 0x10, 0x01, 0xFE, 0xFF, 0, 0] = .ok (.tcdSoff 1 (.write 0xFFFE)) ∧
    decode .eng16 [0x46, 0x10, 0x00, 0, 0, 0, 0] = .ok (.tcdAttr 2 .read) ∧
    decode .eng16 [0x68, 0x10, 0x00, 0, 0, 0, 0] = .ok (.tcdNbytes 3 .read) ∧
    decode .eng16 [0x8C, 0x10, 0x00, 0, 0, 0, 0] = .ok (.tcdSlast 4 .read) ∧
    decode .eng16 [0xB0, 0x10, 0x00, 0, 0, 0, 0] = .ok (.tcdDaddr 5 .read) ∧
    decode .eng16 [0xD4, 0x10, 0x00, 0, 0, 0, 0] = .ok (.tcdDoff 6 .read) ∧
    decode .eng16 [0x56, 0x10, 0x00, 0, 0, 0, 0] = .ok (.tcdCiter 2 .read) ∧
    decode .eng16 [0xF8, 0x11, 0x00, 0, 0, 0, 0] = .ok (.tcdDlastSga 15 .read) ∧
    decode .eng16 [0xBC, 0x10, 0x05, 0x0A, 0, 0, 0] = .ok (.tcdCsr 5 (.write 0x000A)) ∧
    decode .eng16 [0xFE, 0x13, 0x00, 0, 0, 0, 0] = .ok (.tcdBiter 31 .read) := by decide

theorem test_decode_router : decode .mux8 [0x14, 0x01, 0x13, 0, 0, 0x80] = .ok (.chcfg 5 (.write 0x80000013)) := by decide

/-- Vector A3: every optional form at once. -/
theorem test_decode_descriptor :
    decode .tcd256 [0x00, 0x01, 0x00, 0x20, 0x01, 0x00, 0x01, 0x20, 0x08, 0xc0, 0xff, 0xbf, 0, 0, 0, 0,
      0x00, 0x02, 0x00, 0x20, 0xfe, 0xff, 0x03, 0x86, 0x00, 0x04, 0x00, 0x20, 0x31, 0x07, 0x03, 0x86, 0x04] =
    .ok (.tcd 4 { saddr := 0x20000100, soff := 1, attr := 0x2001, nbytes := 0xBFFFC008, slast := 0, daddr := 0x20000200,
                  doff := 0xFFFE, citer := 0x8603, dlastSga := 0x20000400, csr := 0x0731, biter := 0x8603 }) := by decide

/-- Vectors A4 to A7. -/
theorem test_decode_field_words :
    decode .attr [0x01, 0x20, 0x00] = .ok (.attr 0 { smod := 4, ssize := 0, dmod := 0, dsize := 1 }) ∧
    decode .nbytes [0xFF, 0xFF, 0xFF, 0x3F, 0x01] = .ok (.nbytesPlain 1 0x3FFFFFFF) ∧
    decode .nbytes [0x40, 0x00, 0x10, 0x40, 0x01] = .ok (.nbytesOff 1 false true 1024 64) ∧
    decode .iter [0xFF, 0x7F, 0x82] = .ok (.iterPlain 2 .biter 32767) ∧
    decode .iter [0x05, 0xC2, 0x02] = .ok (.iterLink 2 .citer true 1 5) ∧
    decode .csr [0x31, 0x07, 0x03] = .ok (.csr 3 ⟨0, false, 7, false, false, true, true, false, false, false, true⟩) ∧
    decode .dlastSga [0x00, 0xF0, 0xFF, 0xFF, 0x04] = .ok (.dlast 4 0xFFFFF000) ∧
    decode .dlastSga [0x00, 0x04, 0x00, 0x20, 0x84] = .ok (.sga 4 0x1000020) := by decide

/-- Words that are no operation, each by its name (R120, R121, R122, R115, R232; vector A8). -/
theorem test_decode_rejects_by_name :
    decode .cmd8 [0x05, 0x20] = .error .notACommand ∧ decode .cmd8 [0x05] = .error .length ∧
    decode .eng16 [0x18, 0x00, 0x06, 0, 0, 0, 0] = .error .unmapped ∧
    decode .eng16 [0x00, 0x10, 0x04, 0, 0, 0, 0] = .error .unmapped ∧
    decode .eng16 [0x08, 0x00, 0x00, 0, 0, 0, 0] = .error .unmapped ∧
    decode .eng16 [0x00, 0x20, 0x00, 0, 0, 0, 0] = .error .outsideSurface ∧
    decode .eng16 [0x1B, 0x00, 0x00, 0, 0, 0, 0] = .error .writeOnlyRead ∧
    decode .mux8 [0x80, 0x00, 0, 0, 0, 0] = .error .outsideSurface ∧ decode .mux8 [0x15, 0x00, 0, 0, 0, 0] = .error .unmapped ∧
    decode .attr [0x01, 0x20] = .error .length := by decide

/-- A link word that is no multiple of 32 is the plain write of the field (R34, R124). -/
theorem test_decode_misaligned_link : decode .dlastSga [0x10, 0x04, 0x00, 0x20, 0x84] = .ok (.tcdDlastSga 4 (.write 0x20000410)) := by
  decide

/-- R232: a byte written to an offset of no register, and an offset outside the surface, are bus errors; bytes that
are no access do nothing. -/
theorem test_host_event_without_register :
    got (step { State.reset with agenda := [.host .cmd8 [5, 0x20]] }) (·.hostReply) = some .busError ∧
    got (step { State.reset with agenda := [.host .eng16 [0, 0x20, 0, 0, 0, 0, 0]] }) (·.hostReply) = some .busError ∧
    got (step { State.reset with agenda := [.host .cmd8 [5]] }) (decide <| · = State.reset) = some true := by decide

theorem test_table_words :
    decodeTableWord 16 0x1805 = some (.ceei 5) ∧ decodeTableWord 16 0x10BC = some (.tcdCsr 5 .read) ∧
    decodeTableWord 16 0x0106 = some (.dchpri 5 .read) ∧ decodeTableWord 8 0x14 = some (.chcfg 5 .read) ∧
    decodeTableWord 16 0x8603 = some (.iterLink 0 .citer false 3 3) ∧
    decodeTableWord 32 0x40100040 = some (.nbytesOff 0 false true 1024 64) := by decide

/-- A table word put first on the agenda runs next. -/
theorem test_withFetchWord_runs : got (step (State.reset.withFetchWord 16 0x1B05)) (·.erq) = some 0x20 := by decide

/-! ### One step per operation -/

theorem test_ceei : got (exec (.ceei 5) { State.reset with eei := 0xFF }) (·.eei) = some 0xDF := by decide
theorem test_ceeiAll : got (exec .ceeiAll { State.reset with eei := 0xFF }) (·.eei) = some 0 := by decide
theorem test_ceeiNop : got (exec .ceeiNop { State.reset with eei := 0xFF }) (·.eei) = some 0xFF := by decide
theorem test_seei : got (exec (.seei 31) { State.reset with eei := 1 }) (·.eei) = some 0x80000001 := by decide
theorem test_seeiAll : got (exec .seeiAll State.reset) (·.eei) = some 0xFFFFFFFF := by decide
theorem test_seeiNop : got (exec .seeiNop State.reset) (·.eei) = some 0 := by decide
theorem test_cerq : got (exec (.cerq 0) { State.reset with erq := 3 }) (·.erq) = some 2 := by decide
theorem test_cerqAll : got (exec .cerqAll { State.reset with erq := 3 }) (·.erq) = some 0 := by decide
theorem test_cerqNop : got (exec .cerqNop { State.reset with erq := 3 }) (·.erq) = some 3 := by decide
theorem test_serq : got (exec (.serq 5) State.reset) (·.erq) = some 0x20 := by decide
theorem test_serqAll : got (exec .serqAll State.reset) (·.erq) = some 0xFFFFFFFF := by decide
theorem test_serqNop : got (exec .serqNop State.reset) (·.erq) = some 0 := by decide
theorem test_cdne : got (exec (.cdne 2) (holding 2 { base with csr := 0x84 })) (fun t => (t.slot 2).csr) = some 4 := by decide
theorem test_cdneAll : got (exec .cdneAll (holding 9 { base with csr := 0x80 })) (fun t => (t.slot 9).csr) = some 0 := by decide
theorem test_cdneNop : got (exec .cdneNop (holding 2 { base with csr := 0x80 })) (fun t => (t.slot 2).csr) = some 0x80 := by decide
theorem test_ssrt : got (exec (.ssrt 2) (holding 2 { base with csr := 0x40 })) (fun t => (t.slot 2).csr) = some 0x41 := by decide
theorem test_ssrtAll : got (exec .ssrtAll State.reset) (fun t => (t.slot 30).csr) = some 1 := by decide
theorem test_ssrtNop : got (exec .ssrtNop State.reset) (fun t => (t.slot 2).csr) = some 0 := by decide
/-- Program P5, `CERR 5` leaves another channel's latch. -/
theorem test_cerr : got (exec (.cerr 5) { State.reset with err := 0x1020, es := 0x501 }) (fun t => (t.err, t.es)) = some (0x1000, 0x501) := by decide
theorem test_cerrAll : got (exec .cerrAll { State.reset with err := 0x1020 }) esVld = some false := by decide
theorem test_cerrNop : got (exec .cerrNop { State.reset with err := 0x20 }) (·.err) = some 0x20 := by decide
theorem test_cint : got (exec (.cint 9) { State.reset with int := 0x220 }) (·.int) = some 0x20 := by decide
theorem test_cintAll : got (exec .cintAll { State.reset with int := 0x220 }) (·.int) = some 0 := by decide
theorem test_cintNop : got (exec .cintNop { State.reset with int := 0x220 }) (·.int) = some 0x220 := by decide

/-- R233, R268: with nothing executing the cancel bits are not held. -/
theorem test_cr_write_idle : got (exec (.cr (.write 0x30100)) State.reset) crRead = some 0x100 := by decide
theorem test_cr_write_executing : got (exec (.cr (.write 0x20400)) (running (ctx 5) base)) crRead = some 0x20400 := by decide
/-- R234: `VLD` reads as `ERR != 0`. -/
theorem test_es_read : got (exec (.es .read) { State.reset with err := 0x20, es := 0x501 }) (·.hostReply) = some (.value 0x80000501) := by decide
theorem test_erq_write : got (exec (.erq (.write 0x24)) State.reset) (·.erq) = some 0x24 := by decide
theorem test_eei_read : got (exec (.eei .read) { State.reset with eei := 9 }) (·.hostReply) = some (.value 9) := by decide
theorem test_int_write : got (exec (.int (.write 0x20)) { State.reset with int := 0x220 }) (·.int) = some 0x200 := by decide
theorem test_err_write : got (exec (.err (.write 0xFFFFFFFE)) { State.reset with err := 3 }) (·.err) = some 1 := by decide
/-- Vector G3. -/
theorem test_hrs_read : got (exec (.hrs .read) { State.reset.setCfg 5 ⟨true, false, false, 19⟩ with erq := 0x20, srcline := 0x80000 })
    (·.hostReply) = some (.value 0x20) := by decide
/-- Vector H2: bits 5:4 show the group priority. -/
theorem test_dchpri_read : got (exec (.dchpri 3 .read) { State.reset with cr := ⟨false, false, false, true⟩ }) (·.hostReply) = some (.value 0x13) := by decide
theorem test_dchpri_write : got (exec (.dchpri 9 (.write 0xBF)) State.reset) (fun t => dchpriRead t 9) = some 0x8F := by decide
theorem test_tcdSaddr : got (exec (.tcdSaddr 1 (.write 0x20000100)) State.reset) (fun t => (t.slot 1).saddr) = some 0x20000100 := by decide
theorem test_tcdSoff : got (exec (.tcdSoff 1 (.write 0xFFFC)) State.reset) (fun t => soff (t.slot 1)) = some 0xFFFFFFFC := by decide
theorem test_tcdAttr : got (exec (.tcdAttr 1 (.write 0x0503)) State.reset) (fun t => (ssize (t.slot 1), dsize (t.slot 1))) = some (32, 8) := by decide
theorem test_tcdNbytes : got (exec (.tcdNbytes 1 (.write 0xBFFFC008)) State.reset) (fun t => (nbytes (t.slot 1), mloff (t.slot 1))) =
    some (8, 0xFFFFFFF0) := by decide
theorem test_tcdSlast : got (exec (.tcdSlast 1 (.write 7)) State.reset) (fun t => (t.slot 1).slast) = some 7 := by decide
theorem test_tcdDaddr : got (exec (.tcdDaddr 1 (.write 7)) State.reset) (fun t => (t.slot 1).daddr) = some 7 := by decide
theorem test_tcdDoff : got (exec (.tcdDoff 1 (.write 0x8000)) State.reset) (fun t => doff (t.slot 1)) = some 0xFFFF8000 := by decide
theorem test_tcdCiter : got (exec (.tcdCiter 1 (.write 0x81FF)) State.reset) (fun t => count (t.slot 1).citer) = some 511 := by decide
theorem test_tcdDlastSga : got (exec (.tcdDlastSga 1 (.write 0x20)) State.reset) (fun t => (t.slot 1).dlastSga) = some 0x20 := by decide
/-- R241: bit 13 and `ACTIVE` are not written. -/
theorem test_tcdCsr : got (exec (.tcdCsr 1 (.write 0xFFFF)) State.reset) (fun t => (t.slot 1).csr) = some 0xDFBF := by decide
theorem test_tcdCsr_refused : refusal (exec (.tcdCsr 5 (.write 0)) (running (ctx 5) base)) = some (.slotBusy 5) := by decide
theorem test_tcdBiter : got (exec (.tcdBiter 1 .read) (holding 1 base)) (·.hostReply) = some (.value 1) := by decide
/-- Vectors G8 and G10. -/
theorem test_chcfg_without_trigger : got (exec (.chcfg 7 (.write 0xC0000013)) State.reset) (fun t => chcfgRead t 7) = some 0x80000013 := by decide
theorem test_chcfg_with_trigger : got (exec (.chcfg 2 (.write 0xFFFFFFFF)) State.reset) (fun t => chcfgRead t 2) = some 0xE000007F := by decide
/-- R172: the image's `ACTIVE` is dropped. -/
theorem test_tcd : got (exec (.tcd 3 { base with csr := 0x2041 }) State.reset) (fun t => t.slot 3) = some { base with csr := 1 } := by decide
theorem test_attr : got (exec (.attr 3 ⟨3, 1, 0, 1⟩) State.reset) (fun t => (t.slot 3).attr) = some 0x1901 := by decide
theorem test_nbytesPlain : got (exec (.nbytesPlain 3 256) State.reset) (fun t => (t.slot 3).nbytes) = some 0x100 := by decide
theorem test_nbytesOff : got (exec (.nbytesOff 3 true false 8 8) State.reset) (fun t => (t.slot 3).nbytes) = some 0x80002008 := by decide
theorem test_iterPlain : got (exec (.iterPlain 3 .biter 16) State.reset) (fun t => ((t.slot 3).citer, (t.slot 3).biter)) = some (0, 16) := by decide
theorem test_iterLink : got (exec (.iterLink 3 .citer false 3 3) State.reset) (fun t => ((t.slot 3).citer, (t.slot 3).biter)) = some (0x8603, 0) := by decide
theorem test_csr : got (exec (.csr 3 ⟨2, true, 7, true, true, true, true, false, false, false, true⟩) State.reset) (fun t => (t.slot 3).csr) =
    some 0x87B1 := by decide
theorem test_dlast : got (exec (.dlast 3 0xFFFFF000) State.reset) (fun t => (t.slot 3).dlastSga) = some 0xFFFFF000 := by decide
theorem test_sga : got (exec (.sga 3 0x1000020) State.reset) (fun t => (t.slot 3).dlastSga) = some 0x20000400 := by decide

/-! ### Arithmetic and the configuration check (vectors A5, B, C) -/

theorem test_setCount : setCount 0xC205 1 = 0xC201 ∧ count 0x7FFF = 32767 ∧ count 0x8603 = 3 ∧ setCount 0x0010 1 = 1 := by decide
theorem test_nextAddr :
    nextAddr 0x200000FC 4 8 = 0x20000000 ∧ nextAddr 0x20000000 0xFFFFFFFC 4 = 0x2000000C ∧
    nextAddr 0xFFFFFFFC 4 0 = 0 ∧ nextAddr 0x20000010 4 1 = 0x20000010 ∧ nextAddr 0x12345678 32767 31 = 0x1234D677 := by decide
theorem test_confcheck :
    confcheck (holding 0 base) 0 = [] ∧ confcheck (holding 0 { base with saddr := 0x20000001, nbytes := 6 }) 0 = [.sae, .nce] ∧
    confcheck (holding 0 { base with doff := 6 }) 0 = [.doe] ∧ confcheck (holding 0 { base with attr := 0x0207 }) 0 = [.dae] ∧
    confcheck (holding 0 { base with csr := 0x10, dlastSga := 0x20000410 }) 0 = [.sge] := by decide
/-- Vector B21. -/
theorem test_confcheck_many :
    confcheck (({ holding 0 { base with attr := 0x0707, citer := 0, nbytes := 0, csr := 0x10, dlastSga := 1 } with
      cr := ⟨false, false, false, false⟩ } : State).setPri 1 ⟨false, false, 0⟩) 0 = [.sae, .dae, .nce, .sge, .gpe, .cpe] ∧
    errRecord 0 [.sae, .dae, .nce, .sge, .cpe, .gpe] = 0xC0AC := by decide

/-! ### One step of the data mover (vectors D, E, F3, K, I) -/

theorem test_mover_activates : got (step (holding 4 { base with csr := 0x81 })) (fun t => (t.cur, (t.slot 4).csr, t.inprog)) =
    some (some (ctx 4), 0x40, 0x10) := by decide
/-- Program P4. -/
theorem test_mover_captures : got (step (holding 7 { base with csr := 3, nbytes := 3 })) (fun t => (esRead t, t.err, chstate t 7)) =
    some (0x80000708, 0x80, .faulted) := by decide
theorem test_mover_reads : got (step { running (ctx 4) base with mem := [(0x20000001, 7)] }) (fun t => t.cur.map (·.fifo)) =
    some (some [0, 7, 0, 0]) := by decide
theorem test_mover_writes : got (step (running { ctx 4 with wr := true, fifo := [1, 2, 0, 4] } base)) (fun t => (t.mem, t.cur.map (·.rem))) =
    some ([(0x20001000, 1), (0x20001001, 2), (0x20001003, 4)], some 12) := by decide
theorem test_mover_finishes_major : got (step (running (finished 4) { base with csr := 0x0A })) (fun t => ((t.slot 4).csr, t.int, (t.slot 4).saddr)) =
    some (0x8A, 0x10, 0x20000010) := by decide
/-- Vector E3, first start: the link starts channel 3. -/
theorem test_mover_links : got (step (running (finished 2) { base with citer := 0x8603, biter := 0x8603 }))
    (fun t => ((t.slot 2).citer, csrStart (t.slot 3))) = some (0x8602, true) := by decide
theorem test_mover_bus_error : got (step (answering .error (running (ctx 4) base))) (fun t => (esRead t, t.cur)) =
    some (0x80000402, none) := by decide
theorem test_mover_self_access : refusal (step (running { ctx 4 with sa := 0x48000000 } base)) = some (.selfAccess 0x48000000) := by decide

/-! ### A state and operands for every statement with hypotheses -/

theorem witness_DecodeEncodeAgree :
    WellFormed (.nbytesOff 31 true true 0xFFFFF 0x3FF) = true ∧ WellFormed (.tcdCsr 31 (.write 0xFFFF)) = true ∧
    WellFormed (.iterLink 0 .citer true 31 511) = true := by decide

theorem witness_StepRunsDecodedOperation :
    ∃ (s : State) (rest : List Event), s.agenda = .host .cmd8 [0x05, 0x1B] :: rest ∧ s.inReset = false ∧
      decode .cmd8 [0x05, 0x1B] = .ok (.serq 5) :=
  ⟨State.reset.withFetchWord 16 0x1B05, [], by decide, rfl, by decide⟩

/-- Offsets on both sides of every range of R121's table, and wrong widths inside it. -/
theorem witness_UnselectedAccessesAreBusErrors :
    State.reset.inReset = false ∧
    (∀ p ∈ ([(0x0000, .two), (0x0008, .four), (0x0017, .one), (0x0018, .four), (0x0020, .one), (0x0038, .four), (0x00FF, .one),
        (0x0120, .one), (0x0FFE, .two), (0x0100, .four), (0x1002, .two), (0x1000, .two), (0x13FE, .four), (0x1400, .four),
        (0x1FFF, .one)] : List (Half × Width)),
      p.1.toNat < 0x2000 ∧ ¬ (p.2 = .four ∧ p.1.toNat ∈ [0x0000, 0x0004, 0x000C, 0x0014, 0x0024, 0x002C, 0x0034]) ∧
      ¬ (p.2 = .one ∧ (0x0018 ≤ p.1.toNat ∧ p.1.toNat ≤ 0x001F ∨ 0x0100 ≤ p.1.toNat ∧ p.1.toNat ≤ 0x011F)) ∧
      ¬ (0x1000 ≤ p.1.toNat ∧ p.1.toNat ≤ 0x13FF ∧
          (p.2 = .four ∧ p.1.toNat % 0x20 ∈ [0x00, 0x08, 0x0C, 0x10, 0x18] ∨
           p.2 = .two ∧ p.1.toNat % 0x20 ∈ [0x04, 0x06, 0x14, 0x16, 0x1C, 0x1E]))) ∧
    ((0x7F : Byte).toNat < 0x80 ∧ ((0x7F : Byte).toNat % 4 ≠ 0 ∨ Width.four ≠ Width.four)) ∧
    ((0x00 : Byte).toNat < 0x80 ∧ ((0x00 : Byte).toNat % 4 ≠ 0 ∨ Width.one ≠ Width.four)) := by decide

theorem witness_WindowAccessesReachSurfaces :
    (0x0000 : Half).toNat < 0x2000 ∧ (0x1FFF : Half).toNat < 0x2000 ∧ (0x7F : Byte).toNat < 0x80 ∧
    State.reset.platform.inEng (State.reset.platform.muxBase + (0x7F : Byte).setWidth 32) = false := by decide

theorem witness_HostReachesMemory :
    busResp State.reset.platform 0xFFFFFFFF .two .write = .memory ∧ State.reset.mem.wf = true ∧
    busResp State.reset.platform 0 .four .read = .memory := by decide

theorem witness_CeeiSeeiWriteErrorInterruptEnable :
    ({ State.reset with err := 0x80000000 } : State).err.getLsbD (31 : Chan).toNat = true ∧
    ({ State.reset with err := 0x80000000 } : State).err ≠ 0 := by decide

theorem witness_CerqSerqWriteRequestEnable :
    chstate ({ State.reset.setCfg 5 ⟨true, false, false, 19⟩ with erq := 0x20 }) 5 = .enabled ∧
    (({ State.reset.setCfg 5 ⟨true, false, false, 19⟩ with erq := 0x20 } : State).cfg 5).enbl = true ∧
    chstate (State.reset.setCfg 5 ⟨true, false, true, 0⟩) 5 = .bound := by decide

theorem witness_SsrtSetsStart : csrActive (State.reset.slot 0) = false ∧ csrActive (State.reset.slot 31) = false := by decide

theorem witness_CerrCintClearLatches :
    ∀ n : Chan, n ≠ 5 → ({ State.reset with err := 0x20 } : State).err.getLsbD n.toNat = false := by decide

theorem witness_NopCommandsChangeNothing : (0x80 : Byte).getLsbD 7 = true ∧ (0xFF : Byte).getLsbD 7 = true := by decide

theorem witness_ControlRegisterAccess :
    ((running (ctx 5) base).cur ≠ none ∨ (running (ctx 5) base).susp ≠ none) ∧
    State.reset.cur = none ∧ State.reset.susp = none := by decide

theorem witness_EnableRegistersAccess :
    (0x80000000 : Word).getLsbD (31 : Chan).toNat = true ∧
    ({ State.reset with err := 0x80000000 } : State).err.getLsbD (31 : Chan).toNat = true := by decide

/-- The ends of both groups. -/
theorem witness_PriorityRegisterAccess :
    ((15 : Chan) ≠ 0 ∧ (15 : Chan).toNat / 16 = (0 : Chan).toNat / 16 ∧ (State.reset.pri 15).chpri = (0xCF : Byte).extractLsb' 0 4) ∧
    ((16 : Chan) ≠ 31 ∧ (16 : Chan).toNat / 16 = (31 : Chan).toNat / 16 ∧ (State.reset.pri 16).chpri = (0x30 : Byte).extractLsb' 0 4) := by
  decide

theorem witness_DescriptorFieldWrite :
    csrActive ((running (ctx 5) base).slot 5) = true ∧ csrActive ((running (ctx 5) base).slot 6) = false := by decide

theorem witness_DescriptorLoad :
    csrActive ((running (ctx 31) base).slot 31) = true ∧ csrActive ((running (ctx 31) base).slot 0) = false := by decide

theorem witness_AttrNbytesLinkWordsDecode :
    csrActive (State.reset.slot 0) = false ∧ (true || false) = true ∧ (false || true) = true := by decide

theorem witness_IterCsrWordsDecode : csrActive (State.reset.slot 31) = false := by decide

theorem witness_NextAddressCirculatesInWindow : (0 < 1 ∧ 1 ≤ 31) ∧ (0 < 31 ∧ 31 ≤ 31) := by decide

theorem witness_MemoryReturnsLastWrite :
    Memory.wf [(0, 5), (0xFFFFFFFF, 1)] = true ∧ ([] : List Byte).length ≤ 2 ^ 32 ∧ ([1, 0] : List Byte).length ≤ 2 ^ 32 := by decide

theorem witness_PulseAndLineEvents :
    (∃ s : State, s.agenda = [Event.pulse 3] ∧ (s.cfg 3).enbl = true ∧ (s.cfg 3).trig = true) ∧
    (∃ s : State, s.agenda = [Event.line 127 true] ∧ s.cfg 31 = ⟨true, false, false, 127⟩ ∧ (127 : BitVec 7) ≠ 0) :=
  ⟨⟨{ State.reset.setCfg 3 ⟨true, true, true, 0⟩ with agenda := [.pulse 3] }, rfl, by decide, by decide⟩,
   ⟨{ State.reset.setCfg 31 ⟨true, false, false, 127⟩ with agenda := [.line 127 true] }, rfl, by decide, by decide⟩⟩

theorem witness_PriorityOrder :
    priorityErrors State.reset = [] ∧ prio State.reset 7 = prio State.reset 7 ∧ (31 : Chan) ≠ 0 ∧ (0 : Chan) ≠ 31 := by decide

theorem witness_ArbitrationActivatesHighest :
    moverNext (holding 3 { base with csr := 1 }) ∧ (holding 3 { base with csr := 1 }).cur = none ∧
    (holding 3 { base with csr := 1 }).susp = none ∧ req (holding 3 { base with csr := 1 }) 3 = true :=
  ⟨⟨rfl, rfl⟩, rfl, rfl, by decide⟩

theorem witness_IdleDataMoverChangesNothing :
    moverNext State.reset ∧ quiescent State.reset ∧ ∀ n, req State.reset n = false :=
  ⟨⟨rfl, rfl⟩, ⟨rfl, rfl, rfl, by decide⟩, by decide⟩

theorem witness_ActivationStartsMinorLoop : confcheck (holding 0 base) 0 = [] := by decide

theorem witness_ActivationFailureCapturesError : confcheck (holding 31 { base with nbytes := 3 }) 31 ≠ [] := by decide

theorem witness_ErrorCapture :
    [ErrKind.ecx] ≠ [] ∧ (16 < 17 ∧ ¬ (8 ≤ 16 ∧ 16 ≤ 12)) ∧ (0 < 17 ∧ ¬ (8 ≤ 0 ∧ 0 ≤ 12)) ∧
    (7 < 17 ∧ ¬ (8 ≤ 7 ∧ 7 ≤ 12)) ∧ (13 < 17 ∧ ¬ (8 ≤ 13 ∧ 13 ≤ 12)) := by decide

/-- At a boundary, and inside an element of 32 bytes; and each of the four answers. -/
theorem witness_SourceElementRead :
    moverNext (running (ctx 4) base) ∧ (running (ctx 4) base).cur = some (ctx 4) ∧ (ctx 4).wr = false ∧ (ctx 4).rem ≠ 0 ∧
    ssizeCode ((running (ctx 4) base).slot 4) ≤ 5 ∧ preemptors (running (ctx 4) base) 4 = [] ∧
    atBoundary { ctx 4 with part := .reading (List.replicate 28 0) } = false ∧
    ssizeCode { base with attr := 0x0505 } ≤ 5 ∧
    busResp (running (ctx 4) base).platform 0x20000000 .four .read = .memory ∧
    busResp (answering .device (running (ctx 4) base)).platform 0x20000000 .four .read = .device ∧
    busResp (answering .error (running (ctx 4) base)).platform 0x20000000 .four .read = .error ∧
    busResp (running (ctx 4) base).platform 0x48001FFC .four .read = .self :=
  ⟨⟨rfl, rfl⟩, rfl, rfl, by decide, by decide, by decide, by decide, by decide, by decide, by decide, by decide, by decide⟩

theorem witness_DestinationElementWritten :
    moverNext (running { ctx 4 with wr := true, fifo := [1, 2, 3, 4] } base) ∧
    (running { ctx 4 with wr := true, fifo := [1, 2, 3, 4] } base).cur = some { ctx 4 with wr := true, fifo := [1, 2, 3, 4] } ∧
    dsizeCode ((running { ctx 4 with wr := true, fifo := [1, 2, 3, 4] } base).slot 4) ≤ 5 ∧
    (running { ctx 4 with wr := true, fifo := [1, 2, 3, 4] } base).mem.wf = true ∧
    busResp (running (ctx 4) base).platform 0x20001000 .four .write = .memory ∧
    busResp (answering .device (running (ctx 4) base)).platform 0x20001000 .four .write = .device ∧
    busResp (answering .error (running (ctx 4) base)).platform 0x20001000 .four .write = .error ∧
    busResp (running (ctx 4) base).platform 0x48002000 .four .write = .self :=
  ⟨⟨rfl, rfl⟩, rfl, by decide, by decide, by decide, by decide, by decide, by decide⟩

theorem witness_MinorLoopCopiesMemory :
    let s := running (ctx 4) base
    let x := ctx 4
    let t := s.slot x.ch
    moverNext s ∧ s.mem.wf = true ∧ s.cur = some x ∧ (s.pri x.ch).ecp = false ∧ x.wr = false ∧ x.fifo = [] ∧ x.part = .idle ∧
    ssizeCode t ≤ 2 ∧ dsizeCode t = ssizeCode t ∧ t.soff.toNat = ssize t ∧ t.doff.toNat = ssize t ∧ smod t = 0 ∧ dmod t = 0 ∧
    x.rem.toNat = ssize t * 4 ∧
    (∀ i < 4, busResp s.platform (x.sa + BitVec.ofNat 32 (ssize t * i)) (partWidth (ssize t)) .read = .memory ∧
      busResp s.platform (x.da + BitVec.ofNat 32 (ssize t * i)) (partWidth (ssize t)) .write = .memory) ∧
    (∀ i < ssize t * 4, ∀ j < ssize t * 4, x.sa + BitVec.ofNat 32 i ≠ x.da + BitVec.ofNat 32 j) :=
  ⟨⟨rfl, rfl⟩, by decide, rfl, by decide, rfl, rfl, rfl, by decide, by decide, by decide, by decide, by decide, by decide,
    by decide, by decide, by decide⟩

theorem witness_MinorLoopCompletion :
    let s := running (finished 4) { base with citer := 2, biter := 2 }
    moverNext s ∧ s.cur = some (finished 4) ∧ (finished 4).wr = false ∧ (finished 4).rem = 0 ∧ s.cr.cx = false ∧ s.cr.ecx = false ∧
    count (s.slot 4).citer - 1 ≠ 0 ∧ count (s.slot 4).citer ≠ 0 :=
  ⟨⟨rfl, rfl⟩, rfl, rfl, rfl, rfl, rfl, by decide, by decide⟩

theorem witness_MajorLoopCompletion :
    let s := running (finished 4) { base with csr := 0x1F2A }
    moverNext s ∧ s.cur = some (finished 4) ∧ s.cr.cx = false ∧ s.cr.ecx = false ∧
    count (s.slot 4).citer - 1 = 0 ∧ csrEsg (s.slot 4) = false ∧ s.err.getLsbD (4 : Chan).toNat = false :=
  ⟨⟨rfl, rfl⟩, rfl, rfl, rfl, by decide, by decide, by decide⟩

/-- The first and the last of the eight reads, and each of the four answers. -/
theorem witness_NextDescriptorIsReadWordByWord :
    let t := { base with csr := 0x10, dlastSga := 0x20000400 }
    let s := running (finished 4) t
    let x := { finished 4 with part := .loading (List.replicate 28 0) }
    moverNext s ∧ s.cur = some (finished 4) ∧ (finished 4).part = .idle ∧ ([] : List Byte).length < 32 ∧
    (running x t).cur = some x ∧ x.part = .loading (List.replicate 28 0) ∧ (List.replicate 28 (0 : Byte)).length < 32 ∧
    count (s.slot 4).citer - 1 = 0 ∧ csrEsg (s.slot 4) = true ∧
    busResp s.platform 0x2000041C .four .read = .memory ∧ busResp (answering .error s).platform 0x20000400 .four .read = .error ∧
    busResp (answering .device s).platform 0x20000400 .four .read = .device ∧ busResp s.platform 0x48000000 .four .read = .self :=
  ⟨⟨rfl, rfl⟩, rfl, rfl, by decide, rfl, rfl, by decide, by decide, by decide, by decide, by decide, by decide, by decide⟩

theorem witness_ScatterGatherReplacesSlot :
    let x := { finished 4 with part := .loading (bytesOfTcd { base with csr := 0x2041 }) }
    let s := running x { base with csr := 0x10, dlastSga := 0x20000400 }
    moverNext s ∧ s.cur = some x ∧ s.cr.cx = false ∧ s.cr.ecx = false ∧ count (s.slot 4).citer - 1 = 0 ∧
    csrEsg (s.slot 4) = true ∧ (bytesOfTcd { base with csr := 0x2041 }).length = 32 :=
  ⟨⟨rfl, rfl⟩, rfl, rfl, rfl, by decide, by decide, rfl⟩

theorem witness_ScatterGatherFailureKeepsCommit :
    let x := { finished 1 with part := .loadFailed }
    let s := running x { base with csr := 0x1A, dlastSga := 0x20000400 }
    moverNext s ∧ s.cur = some x ∧ x.wr = false ∧ x.rem = 0 ∧ count (s.slot 1).citer - 1 = 0 ∧ csrEsg (s.slot 1) = true :=
  ⟨⟨rfl, rfl⟩, rfl, rfl, rfl, by decide, by decide⟩

/-- A plain cancel, a cancel with an error, and a completion that fails. -/
theorem witness_CancelFollowsCompletion :
    let s := { running (finished 4) base with cr := ⟨true, false, true, false⟩ }
    let e := { running (finished 4) base with cr := ⟨true, true, true, false⟩ }
    let x := { finished 4 with part := .loadFailed }
    let f := { running x { base with csr := 0x10 } with cr := ⟨true, false, true, false⟩ }
    (moverNext s ∧ s.cur = some (finished 4) ∧ (s.cr.cx || s.cr.ecx) = true ∧
      got (step { s with cr := { s.cr with cx := false, ecx := false } }) (·.cur) = some none ∧ s.cr.ecx = false ∧
      csrEsg (s.slot 4) = false) ∧
    (e.cr.ecx = true ∧ got (step { e with cr := { e.cr with cx := false, ecx := false } }) (·.cur) = some none) ∧
    (got (step { f with cr := { f.cr with cx := false, ecx := false } }) (·.cur) = some none ∧
      x.part = .loadFailed ∧ count (f.slot 4).citer - 1 = 0 ∧ csrEsg (f.slot 4) = true) :=
  ⟨⟨⟨rfl, rfl⟩, rfl, by decide, by decide, rfl, by decide⟩, ⟨rfl, by decide⟩, by decide, rfl, by decide, by decide⟩

/-- Vector I1, at its preemption; and its resume. -/
def preempted : State := ((running (ctx 2) base).setPri 2 ⟨true, false, 2⟩).setSlot 9 { base with csr := 1 }

theorem witness_PreemptionAndResume :
    moverNext preempted ∧ preempted.cur = some (ctx 2) ∧ (ctx 2).rem ≠ 0 ∧ atBoundary (ctx 2) = true ∧ preempted.susp = none ∧
    preempted.cr.cx = false ∧ preempted.cr.ecx = false ∧ (preempted.pri 2).ecp = true ∧ req preempted 9 = true ∧
    (preempted.pri 9).dpa = false ∧ prio preempted 2 < prio preempted 9 ∧
    moverNext { State.reset with susp := some (ctx 2) } ∧ ({ State.reset with susp := some (ctx 2) } : State).cur = none :=
  ⟨⟨rfl, rfl⟩, rfl, by decide, by decide, rfl, rfl, rfl, by decide, by decide, by decide, by decide, ⟨rfl, rfl⟩, rfl⟩

theorem witness_SuspensionOnlyByPreemption :
    got (step preempted) (fun t => decide (t.susp = preempted.susp)) = some false ∧
    got (step { State.reset with susp := some (ctx 2) }) (·.susp) = some none ∧
    got (step { State.reset with susp := some (ctx 2), agenda := [.reset true] }) (·.susp) = some none := by decide

theorem witness_LatchesFallOnlyByClearingWrites :
    got (exec (.int (.write 0x20)) { State.reset with int := 0x20 }) (fun t => t.int.getLsbD 5) = some false ∧
    got (exec (.cerr 31) { State.reset with err := 0x80000000 }) (fun t => t.err.getLsbD 31) = some false ∧
    moverNext (running (ctx 4) base) ∧ got (step (running (ctx 4) base)) (·.int) = some 0 :=
  ⟨by decide, by decide, ⟨rfl, rfl⟩, by decide⟩

theorem witness_BusAccessChangesNoRegister :
    moverNext (running (ctx 4) base) ∧
    got (step (running (ctx 4) base)) (·.trace) = some [⟨.read, 0x20000000, .four, [0, 0, 0, 0], true⟩] :=
  ⟨⟨rfl, rfl⟩, by decide⟩

theorem witness_HostCannotDisturbExecution :
    got (exec (.cdne 5) (running (ctx 5) base)) (·.cur) = some (some (ctx 5)) ∧
    csrActive ((running (ctx 5) base).slot 5) = true := by decide

theorem witness_AcknowledgmentReturnsToFree :
    let s := { holding 5 { base with csr := 0x80 } with int := 0x20, err := 0x20 }
    csrActive (s.slot 5) = false ∧ csrStart (s.slot 5) = false ∧ s.inprog.getLsbD (5 : Chan).toNat = false ∧
    s.erq.getLsbD (5 : Chan).toNat = false ∧ (s.cfg 5).enbl = false := by decide

theorem witness_ResetEvent :
    ({ running (ctx 4) base with agenda := [.reset true] } : State).agenda = [.reset true] ∧
    ({ State.reset with inReset := true } : State).agenda = [] ∧ ({ State.reset with inReset := true } : State).inReset = true ∧
    ({ State.reset with inReset := true, agenda := [.reset false] } : State).agenda = [.reset false] ∧
    ({ State.reset with inReset := true, agenda := [.host .cmd8 [5, 0x1B]] } : State).agenda = [.host .cmd8 [5, 0x1B]] :=
  ⟨rfl, rfl, rfl, rfl, rfl⟩

theorem witness_MemoryStaysCanonical :
    (running { ctx 4 with wr := true, fifo := [1, 2, 0, 4] } base).mem.wf = true ∧
    got (step (running { ctx 4 with wr := true, fifo := [1, 2, 0, 4] } base)) (fun t => t.mem.length) = some 3 := by decide

theorem witness_ActiveMarksExecutingChannels :
    executionAgrees (running (ctx 4) base) ∧ got (step (running (ctx 4) base)) (fun t => t.cur.map (·.ch)) = some (some 4) :=
  ⟨⟨by unfold activeAgrees; decide, by decide⟩, by decide⟩

theorem witness_ReservedBitsStayZero :
    reservedZero (running (ctx 4) base) ∧ got (step (running (ctx 4) base)) (·.es) = some 0 :=
  ⟨⟨by decide, by decide, by decide⟩, by decide⟩

theorem witness_CancelBitsHeldOnlyWhileExecuting :
    cancelHeld { running (ctx 4) base with cr := ⟨true, false, true, false⟩ } ∧
    got (step { running (finished 4) base with cr := ⟨true, false, true, false⟩ }) (fun t => (t.cr.cx, t.cur)) = some (false, none) :=
  ⟨fun _ => rfl, by decide⟩

theorem witness_ContextsStayConsistent :
    executionAgrees (running (ctx 4) base) ∧ contextsOk (running (ctx 4) base) ∧
    got (step (running (ctx 4) base)) (fun t => t.cur.map (·.wr)) = some (some true) := by
  refine ⟨⟨by unfold activeAgrees; decide, by decide⟩, ⟨?_, ?_⟩, by decide⟩
  · intro x h; cases h; decide
  · intro y h; cases h

theorem witness_EveryBusAccessIsAligned :
    executionAgrees (running (ctx 4) base) ∧ contextsOk (running (ctx 4) base) ∧
    got (step (running (ctx 4) base)) (fun t => t.trace.length) = some 1 :=
  ⟨witness_ContextsStayConsistent.1, witness_ContextsStayConsistent.2.1, by decide⟩

end Sys2Proof.Tests
end

