-- ==== Sys2Proof/Proofs/Scope.lean ====
section
/-! PROOF. The agenda's next event as a step (O3), and runs of bytes in memory (O26). -/

namespace Sys2Proof.Machine

/-! ### The step and the agenda -/

/-- A step runs the first event of the agenda, on the state without that event. -/
theorem step_of_agenda_cons (s : State) (e : Event) (rest : List Event) (h : s.agenda = e :: rest) :
    step s = runEvent e { s with agenda := rest } := by
  simp only [step, nextStep, h]

/-- Out of reset, bytes that decode to an operation run that operation. -/
theorem hostOperation_of_decode_ok (s : State) (f : Format) (bytes : List Byte) (i : Instr)
    (hreset : s.inReset = false) (hdecode : decode f bytes = .ok i) : hostOperation f bytes s = exec i s := by
  simp [hostOperation, hreset, hdecode]

/-- Settles O3: the step runs the agenda's first event, which is the host operation of the decoded bytes. -/
theorem stepRunsDecodedOperation : Obligations.StepRunsDecodedOperation := by
  intro s f bytes rest i hagenda hreset hdecode
  calc step s = hostOperation f bytes { s with agenda := rest } := step_of_agenda_cons s _ rest hagenda
    _ = exec i { s with agenda := rest } := hostOperation_of_decode_ok _ f bytes i hreset hdecode

/-! ### Runs of bytes in memory -/

/-- Less than one turn of the address space past an address lies another address (R7). -/
theorem toNat_ne_toNat_add_ofNat (a : Addr) {i : Nat} (hpos : 0 < i) (hlt : i < 2 ^ 32) :
    a.toNat ≠ (a + BitVec.ofNat 32 i).toNat := by
  simp only [BitVec.toNat_add, BitVec.toNat_ofNat]
  omega

/-- A write of a run of bytes leaves every byte outside the run as before. -/
theorem readByte_write_of_outside (m : Memory) (a : Addr) (bs : List Byte) (k : Nat) (hm : m.wf = true)
    (hk : ∀ i < bs.length, k ≠ (a + BitVec.ofNat 32 i).toNat) : (m.write a bs).readByte k = m.readByte k := by
  induction bs generalizing m a with
  | nil => rfl
  | cons b bs ih =>
    have hhead : k ≠ a.toNat := by simpa using hk 0 (by simp)
    have htail : ∀ i < bs.length, k ≠ (a + 1 + BitVec.ofNat 32 i).toNat := fun i hi => by
      rw [succ_add_ofNat]
      exact hk (i + 1) (by simpa using hi)
    calc ((m.writeByte a.toNat b).write (a + 1) bs).readByte k
        = (m.writeByte a.toNat b).readByte k := ih _ _ (wf_writeByte m a b hm) htail
      _ = m.readByte k := by rw [readByte_writeByte m 0 _ _ _ hm, if_neg hhead]

/-- A run of bytes no longer than the address space reads as it was last written: the bytes after the first do not
come round to the first one's address. -/
theorem read_write_same (m : Memory) (a : Addr) (bs : List Byte) (hm : m.wf = true) (hlen : bs.length ≤ 2 ^ 32) :
    (m.write a bs).read a bs.length = bs := by
  induction bs generalizing m a with
  | nil => rfl
  | cons b bs ih =>
    rw [List.length_cons] at hlen
    have hwf := wf_writeByte m a b hm
    have hfirst : ((m.writeByte a.toNat b).write (a + 1) bs).readByte a.toNat = b := by
      rw [readByte_write_of_outside _ _ _ _ hwf, readByte_writeByte m 0 _ _ _ hm, if_pos rfl]
      intro i hi
      rw [succ_add_ofNat]
      exact toNat_ne_toNat_add_ofNat a (by omega) (by omega)
    rw [List.length_cons, Memory.write, Memory.read, hfirst, ih _ _ hwf (by omega)]

/-- Settles O26, by induction on the bytes written: the run reads back, and no byte outside it changes. -/
theorem memoryReturnsLastWrite : Obligations.MemoryReturnsLastWrite :=
  fun m a bs hm hlen => ⟨read_write_same m a bs hm hlen, fun k hk => readByte_write_of_outside m a bs k hm hk⟩

end Sys2Proof.Machine
end

