-- ==== Sys2Proof/Proofs/State.lean ====
section
/-! PROOF. The state and what every step keeps (10_state.md): what a host operation and a step of the data mover can do
to the state, said once each, and from them the invariants of R60 and R34 (O55, O56, O60), the frames of R31 and R250
(O49, O50), the register accesses of R121, R122, R241 and R243 (O4, O21, O22), the input events of R63 (O28) and the
reset values (O52). -/

namespace Sys2Proof.Machine

open Sys2Proof.Safety

/-! ### The reserved bit 13 of `CSR` and of `ES` -/

/-- Bit 13 of the slot's `CSR`, which holds nothing (R34, R114). -/
def csrReserved (t : Tcd) : Bool := t.csr.getLsbD 13

@[simp] theorem csrReserved_setStart (t : Tcd) (b : Bool) : csrReserved (setStart t b) = csrReserved t := by
  simp [csrReserved, setStart]
@[simp] theorem csrReserved_setActive (t : Tcd) (b : Bool) : csrReserved (setActive t b) = csrReserved t := by
  simp [csrReserved, setActive]
@[simp] theorem csrReserved_setDone (t : Tcd) (b : Bool) : csrReserved (setDone t b) = csrReserved t := by
  simp [csrReserved, setDone]

/-- `CSR` of a loaded image: that of the image without `ACTIVE` and bit 13 (R172). -/
theorem getLsbD_csr_slotImage (d : Tcd) (i : Nat) :
    (slotImage d).csr.getLsbD i = if i = 13 ∨ i = 6 then false else d.csr.getLsbD i := by
  have himage : (slotImage d).csr = csrWritten 0 d.csr := by simp [slotImage, csrWritten]
  rw [himage, getLsbD_csrWritten]
  by_cases h6 : i = 6 <;> simp [h6]

@[simp] theorem csrActive_slotImage (d : Tcd) : csrActive (slotImage d) = false := getLsbD_csr_slotImage d 6
@[simp] theorem csrReserved_slotImage (d : Tcd) : csrReserved (slotImage d) = false := getLsbD_csr_slotImage d 13

@[simp] theorem csrActive_slotAfterMinor (x : Ctx) (t : Tcd) (c : Half) : csrActive (slotAfterMinor x t c) = false := by
  simp [slotAfterMinor]
@[simp] theorem csrReserved_slotAfterMinor (x : Ctx) (t : Tcd) (c : Half) :
    csrReserved (slotAfterMinor x t c) = csrReserved t := by
  rw [slotAfterMinor, csrReserved_setActive]; rfl
@[simp] theorem csrActive_slotAfterMajor (x : Ctx) (t : Tcd) : csrActive (slotAfterMajor x t) = false := by
  simp [slotAfterMajor]
@[simp] theorem csrReserved_slotAfterMajor (x : Ctx) (t : Tcd) : csrReserved (slotAfterMajor x t) = csrReserved t := by
  rw [slotAfterMajor, csrReserved_setDone, csrReserved_setActive]; rfl

/-- No kind of error has the code 13, and the channel's number ends at bit 12 (R22, R280). -/
theorem getLsbD_errRecord_reserved (c : Chan) (kinds : List ErrKind) :
    (errRecord c kinds).getLsbD 13 = false := by
  have hcode (k : ErrKind) : k.code ≠ 13 := by cases k <;> decide
  by_contra h
  rcases (getLsbD_foldl_kinds kinds _ 13 (by decide)).1 (by simpa [errRecord] using h) with h | ⟨k, -, hk⟩
  · simp at h
  · exact hcode k hk

/-! ### What a host operation can do (R31, R250, R331) -/

/-- What a host operation can make of one slot: `SSRT` and `CDNE` write one flag, also of an executing channel; any
other write goes to a slot whose channel does not execute, and sets neither `ACTIVE` nor bit 13. -/
inductive HostSlotEffect (u : Tcd) : Tcd → Prop where
  | same : HostSlotEffect u u
  | started : HostSlotEffect u (setStart u true)
  | doneCleared : HostSlotEffect u (setDone u false)
  | written {v : Tcd} (idle : csrActive u = false) (active : csrActive v = false)
      (reserved : csrReserved v = true → csrReserved u = true) : HostSlotEffect u v

/-- What a host operation that answers a next state can do to what the data mover works with, and to `TRIG`. -/
structure HostEffect (s t : State) : Prop where
  cur : t.cur = s.cur
  susp : t.susp = s.susp
  es : t.es = s.es
  mem : t.mem = s.mem
  slot : ∀ n, HostSlotEffect (s.slot n) (t.slot n)
  trig : ∀ n : Chan, 4 ≤ n.toNat → (t.cfg n).trig = true → (s.cfg n).trig = true

theorem HostSlotEffect.csrActive_eq {u v : Tcd} (h : HostSlotEffect u v) : csrActive v = csrActive u := by
  cases h with
  | same => rfl
  | started => exact csrActive_setStart ..
  | doneCleared => exact csrActive_setDone ..
  | written hidle hactive _ => rw [hidle, hactive]

theorem HostSlotEffect.csrReserved_imp {u v : Tcd} (h : HostSlotEffect u v) :
    csrReserved v = true → csrReserved u = true := by
  cases h with
  | same => exact id
  | started => simp
  | doneCleared => simp
  | written _ _ hreserved => exact hreserved

/-- Of an executing channel's slot a host operation changes at most `START` and `DONE` (R250, R331). -/
theorem HostSlotEffect.of_active {u v : Tcd} (h : HostSlotEffect u v) (hactive : csrActive u = true) :
    v = { u with csr := v.csr } ∧ ∀ j, j ≠ 0 → j ≠ 7 → v.csr.getLsbD j = u.csr.getLsbD j := by
  cases h with
  | same => exact ⟨rfl, fun _ _ _ => rfl⟩
  | started => exact ⟨rfl, fun j h0 _ => by simp [setStart, Ne.symm h0]⟩
  | doneCleared => exact ⟨rfl, fun j _ h7 => by simp [setDone, Ne.symm h7]⟩
  | written hidle _ _ => simp [hidle] at hactive

/-- An operation that touches neither a slot nor a router register. -/
theorem HostEffect.of_slots_router_eq {s t : State} (htcd : t.tcd = s.tcd) (hcfg : t.chcfg = s.chcfg)
    (hcur : t.cur = s.cur) (hsusp : t.susp = s.susp) (hes : t.es = s.es) (hmem : t.mem = s.mem) : HostEffect s t where
  cur := hcur
  susp := hsusp
  es := hes
  mem := hmem
  slot n := by rw [slot_congr htcd]; exact .same
  trig n _ h := by rwa [cfg_congr hcfg] at h

/-- An operation that writes one flag in the slots of a selection. -/
theorem HostEffect.of_overSlots (s : State) (sel : Word) {f : Tcd → Tcd} (hf : ∀ u, HostSlotEffect u (f u)) :
    HostEffect s (s.overSlots sel f).ack where
  cur := rfl
  susp := rfl
  es := rfl
  mem := rfl
  slot n := by
    rw [slot_congr (State.ack_tcd _), slot_overSlots]
    split
    · exact hf _
    · exact .same
  trig _ _ h := h

/-- An operation that replaces the slot of a channel. -/
theorem HostEffect.of_setSlot {s : State} {n : Chan} {v : Tcd} (hv : HostSlotEffect (s.slot n) v) :
    HostEffect s (s.setSlot n v).ack where
  cur := rfl
  susp := rfl
  es := rfl
  mem := rfl
  slot m := by
    rw [slot_congr (State.ack_tcd _), slot_setSlot]
    split
    · next hm => rw [hm]; exact hv
    · exact .same
  trig _ _ h := h

/-- A field write keeps `ACTIVE` and does not set bit 13 (R241). -/
def keepsFlags {w : Nat} (put : Tcd → BitVec w → Tcd) : Prop :=
  ∀ u v, csrActive (put u v) = csrActive u ∧ (csrReserved (put u v) = true → csrReserved u = true)

theorem keepsFlags_of_csr_eq {w : Nat} {put : Tcd → BitVec w → Tcd} (h : ∀ u v, (put u v).csr = u.csr) :
    keepsFlags put := fun u v => by simp [csrActive, csrReserved, h]

theorem keepsFlags_csrWritten : keepsFlags fun t v => { t with csr := csrWritten t.csr v } :=
  fun u v => ⟨getLsbD_csrWritten u.csr v 6, fun h => by
    rw [csrReserved, getLsbD_csrWritten] at h
    simp at h⟩

theorem keepsFlags_putIter (f : IterField) : keepsFlags (putIter f) :=
  keepsFlags_of_csr_eq fun u v => by cases f <;> rfl

/-- A host access to a slot field: a load changes nothing, and a store reaches a channel that does not execute. -/
theorem HostEffect.of_slotAccess {w : Nat} {get : Tcd → BitVec w} {put : Tcd → BitVec w → Tcd} {n : Chan}
    {a : Access w} {s t : State} (h : slotAccess get put n a s = .next t) (hput : keepsFlags put) : HostEffect s t := by
  rcases slotAccess_next h with ⟨-, rfl⟩ | ⟨v, -, hidle, rfl⟩
  · exact .of_slots_router_eq rfl rfl rfl rfl rfl rfl
  · obtain ⟨hactive, hreserved⟩ := hput (s.slot n) v
    exact .of_setSlot (.written hidle (hactive.trans hidle) hreserved)

theorem HostEffect.of_storeWord {w : Nat} {put : Tcd → BitVec w → Tcd} {n : Chan} {v : BitVec w} {s t : State}
    (h : storeWord put n v s = .next t) (hput : keepsFlags put) : HostEffect s t := .of_slotAccess h hput

/-- A write of `CHCFG[n]` sets `TRIG` on the channels 0 to 3 only (R243). -/
theorem HostEffect.of_writeChcfg (s : State) (n : Chan) (v : Word) : HostEffect s (s.writeChcfg n v).ack where
  cur := State.setTrg_cur ..
  susp := State.setTrg_susp ..
  es := State.setTrg_es ..
  mem := State.setTrg_mem ..
  slot m := by
    rw [slot_congr (State.ack_tcd _), State.writeChcfg, slot_congr (State.setTrg_tcd ..)]
    exact .same
  trig m hm h := by
    rw [cfg_congr (State.ack_chcfg _), State.writeChcfg, cfg_congr (State.setTrg_chcfg ..), cfg_setCfg] at h
    split at h
    · next heq => subst heq; simp [Nat.not_lt.2 hm] at h
    · exact h

/-- Every operation of the opcode table that answers a next state is within `HostEffect`. -/
theorem exec_hostEffect {i : Instr} {s t : State} (h : exec i s = .next t) : HostEffect s t := by
  cases i
  case cdne | cdneAll => cases h; exact .of_overSlots s _ fun _ => .doneCleared
  case ssrt | ssrtAll => cases h; exact .of_overSlots s _ fun _ => .started
  case cr a | es a | erq a | eei a | int a | err a | hrs a | dchpri n a =>
    cases a <;> cases h <;> exact .of_slots_router_eq rfl rfl rfl rfl rfl rfl
  case chcfg n a =>
    cases a with
    | read => cases h; exact .of_slots_router_eq rfl rfl rfl rfl rfl rfl
    | write v => cases h; exact .of_writeChcfg s n v
  case tcd n d =>
    simp only [exec, execTcd] at h
    split at h
    · cases h
    · next hidle =>
      cases h
      exact .of_setSlot (.written (by simpa using hidle) (csrActive_slotImage d) (by simp))
  case tcdSaddr | tcdSoff | tcdAttr | tcdNbytes | tcdSlast | tcdDaddr | tcdDoff | tcdCiter | tcdDlastSga | tcdBiter =>
    exact .of_slotAccess h (keepsFlags_of_csr_eq fun _ _ => rfl)
  case tcdCsr => exact .of_slotAccess h keepsFlags_csrWritten
  case attr | nbytesPlain | nbytesOff | dlast | sga =>
    simp only [exec, execAttr, execNbytesPlain, execNbytesOff, execDlast, execSga] at h
    exact .of_storeWord h (keepsFlags_of_csr_eq fun _ _ => rfl)
  case iterPlain n f _ | iterLink n f _ _ _ => exact .of_storeWord h (keepsFlags_putIter f)
  case csr =>
    simp only [exec, execCsr] at h
    exact .of_storeWord h keepsFlags_csrWritten
  all_goals cases h; exact .of_slots_router_eq rfl rfl rfl rfl rfl rfl

/-- Settles O50: `HostEffect` bounds every operation. -/
theorem hostCannotDisturbExecution : Obligations.HostCannotDisturbExecution := by
  intro i s t h
  have heffect := exec_hostEffect h
  exact ⟨heffect.cur, heffect.susp, heffect.es, heffect.mem, fun n => (heffect.slot n).csrActive_eq,
    fun n hactive => (heffect.slot n).of_active hactive⟩

/-! ### Frames of the data mover's parts -/

@[simp] theorem markActive_es (c : Chan) (s : State) : (markActive c s).es = s.es := by rw [markActive_eq]
@[simp] theorem markActive_chcfg (c : Chan) (s : State) : (markActive c s).chcfg = s.chcfg := by
  rw [markActive_eq]
@[simp] theorem markActive_susp (c : Chan) (s : State) : (markActive c s).susp = s.susp := by
  rw [markActive_eq]
@[simp] theorem markActive_trace (c : Chan) (s : State) : (markActive c s).trace = s.trace := by
  rw [markActive_eq]

@[simp] theorem activate_trace (c : Chan) (s : State) : (activate c s).trace = s.trace := by
  rcases activate_cases c s with ⟨-, h⟩ | ⟨-, h⟩ <;> simp [h]

/-- An idle data mover activates a requesting channel, on the state with at most one more draw, or does nothing
(R202). -/
theorem arbitrate_cases (s : State) :
    (∃ c s', req s c = true ∧ (s' = s ∨ s' = s.drawn) ∧ arbitrate s = activate c s') ∨ arbitrate s = s := by
  unfold arbitrate
  split
  · next c s' h =>
    obtain ⟨hmem, -, hdraw⟩ := choose_some h
    exact .inl ⟨c, s', (List.mem_filter.1 hmem).2, hdraw, rfl⟩
  · exact .inr rfl

/-- A channel that may preempt requests, and none is suspended (R210). -/
theorem mem_preemptors {s : State} {e k : Chan} (h : k ∈ preemptors s e) : s.susp = none ∧ req s k = true := by
  unfold preemptors at h
  split at h
  · next hcond =>
    simp only [Bool.and_eq_true, Option.isNone_iff_eq_none] at hcond
    obtain ⟨⟨⟨hsusp, -⟩, -⟩, -⟩ := hcond
    simp only [List.mem_filter, Bool.and_eq_true] at h
    exact ⟨hsusp, h.2.1.1⟩
  · simp at h

/-- A requesting channel does not execute (R200). -/
theorem csrActive_of_req {s : State} {c : Chan} (h : req s c = true) : csrActive (s.slot c) = false := by
  simp only [req, Bool.and_eq_true, Bool.not_eq_true'] at h
  exact h.1

/-! ### A channel stops executing (R160, R288) -/

/-- Channel `c` has stopped: its `ACTIVE` is 0, no other `ACTIVE` bit changed, no reserved bit was set, and the
suspended context and the router registers stay. -/
structure Stopped (c : Chan) (s t : State) : Prop where
  susp : t.susp = s.susp
  chcfg : t.chcfg = s.chcfg
  active : ∀ n, csrActive (t.slot n) = if n = c then false else csrActive (s.slot n)
  reserved : ∀ n, csrReserved (t.slot n) = true → csrReserved (s.slot n) = true
  es : t.es.getLsbD 13 = true → s.es.getLsbD 13 = true

/-- `Stopped` does not depend on the executing context, the chain bits, the cancel bits, memory or the model's own
bookkeeping. -/
theorem Stopped.of_eq {c : Chan} {s t u : State} (h : Stopped c s t) (htcd : u.tcd = t.tcd) (hsusp : u.susp = t.susp)
    (hcfg : u.chcfg = t.chcfg) (hes : u.es = t.es) : Stopped c s u where
  susp := hsusp.trans h.susp
  chcfg := hcfg.trans h.chcfg
  active n := by rw [slot_congr htcd, h.active]
  reserved n := by rw [slot_congr htcd]; exact h.reserved n
  es := by rw [hes]; exact h.es

theorem stopped_raiseChannelError (c : Chan) (kinds : List ErrKind) (s : State) :
    Stopped c s (raiseChannelError c kinds s) where
  susp := rfl
  chcfg := rfl
  active n := by
    rw [slot_raiseChannelError]
    split <;> simp
  reserved n := by
    rw [slot_raiseChannelError]
    split
    · next h => simp [h]
    · exact id
  es h := by rw [raiseChannelError_es, getLsbD_errRecord_reserved] at h; cases h

theorem Stopped.raiseChannelError {c : Chan} {s t : State} (h : Stopped c s t) (kinds : List ErrKind) :
    Stopped c s (raiseChannelError c kinds t) :=
  have hraise := stopped_raiseChannelError c kinds t
  { susp := hraise.susp.trans h.susp
    chcfg := hraise.chcfg.trans h.chcfg
    active := fun n => by rw [hraise.active, h.active]; split <;> rfl
    reserved := fun n hn => h.reserved n (hraise.reserved n hn)
    es := fun he => h.es (hraise.es he) }

/-- The end of a completion leaves a stopped channel stopped: a pending cancel with error captures on that channel. -/
theorem Stopped.retire {c : Chan} {s t : State} (h : Stopped c s t) : Stopped c s (retire c t) := by
  unfold Machine.retire cancelCheck
  split
  · exact (Stopped.raiseChannelError (h.of_eq rfl rfl rfl rfl) _).of_eq rfl rfl rfl rfl
  · split <;> exact h.of_eq rfl rfl rfl rfl

theorem stopped_minorDone (x : Ctx) (newc : Half) (s : State) : Stopped x.ch s (minorDone x newc s) where
  susp := by rw [minorDone_eq]
  chcfg := by rw [minorDone_eq]
  active n := by
    rw [slot_minorDone]
    by_cases h : n = x.ch <;> simp only [h, if_true, if_false] <;> split <;> simp
  reserved n := by
    rw [slot_minorDone]
    by_cases h : n = x.ch <;> simp only [h, if_true, if_false] <;> split <;> simp
  es := by rw [minorDone_eq]; exact id

theorem stopped_majorCommit (x : Ctx) (s : State) : Stopped x.ch s (majorCommit x s) where
  susp := by rw [majorCommit_eq]
  chcfg := by rw [majorCommit_eq]
  active n := by
    rw [slot_majorCommit]
    by_cases h : n = x.ch <;> simp only [h, if_true, if_false] <;> split <;> simp
  reserved n := by
    rw [slot_majorCommit]
    by_cases h : n = x.ch <;> simp only [h, if_true, if_false] <;> split <;> simp
  es := by rw [majorCommit_eq]; exact id

/-- The next descriptor is loaded with `ACTIVE` and bit 13 dropped (R172). -/
theorem Stopped.loaded {c : Chan} {s t : State} (h : Stopped c s t) (d : Tcd) :
    Stopped c s (t.setSlot c (slotImage d)) where
  susp := h.susp
  chcfg := h.chcfg
  active n := by
    rw [slot_setSlot]
    by_cases hn : n = c
    · simp [hn]
    · simp [hn, h.active]
  reserved n := by
    rw [slot_setSlot]
    split
    · simp
    · exact h.reserved n
  es := h.es

/-! ### The steps of the data mover (R145) -/

/-- The ends of a minor loop of context `x` (R160, R170, R172, R300), from a state in which `x` executes. -/
inductive Completed (x : Ctx) (s : State) : State → Prop where
  | minor (newc : Half) : Completed x s (retire x.ch (minorDone x newc s))
  | major : Completed x s (majorDone x s)
  | majorLoaded (image : List Byte) : Completed x s (majorDoneLoad x image s)
  | majorFailed : Completed x s (majorDoneFailed x s)

/-- Everything a step of the data mover can do when it ends in a next state: resume, arbitrate, take a part of an
access, have an access refused, complete, or preempt. A next-descriptor read that the bus refuses is kept in the
context as a part of it (R172). -/
inductive MoverEffect (s : State) : State → Prop where
  | resumed (y : Ctx) (hcur : s.cur = none) (hsusp : s.susp = some y) :
      MoverEffect s { s with cur := some y, susp := none }
  | arbitrated (hcur : s.cur = none) (hsusp : s.susp = none) : MoverEffect s (arbitrate s)
  | accessed (x y : Ctx) (e : BusEvent) (m : Memory) (d : Nat) (hcur : s.cur = some x) (hch : y.ch = x.ch) :
      MoverEffect s { s with cur := some y, mem := m, draws := d, trace := e :: s.trace }
  | refused (x : Ctx) (e : BusEvent) (kind : ErrKind) (hcur : s.cur = some x) (htaken : e.taken = false) :
      MoverEffect s (raiseChannelError x.ch [kind] (s.logBus e))
  | completed (x : Ctx) {t : State} (hcur : s.cur = some x) (hend : Completed x s t) : MoverEffect s t
  | preempted (x : Ctx) (k : Chan) (s' : State) (hcur : s.cur = some x) (hsusp : s.susp = none)
      (hreq : req s k = true) (hdraw : s' = s ∨ s' = s.drawn) :
      MoverEffect s (activate k { s' with susp := some x, cur := none })

theorem readElement_effect {x : Ctx} {s t : State} (hcur : s.cur = some x) (h : readElement x s = .next t) :
    MoverEffect s t := by
  simp only [readElement] at h
  split at h
  · cases h
  · next hrefused =>
    cases h
    rw [busRead_error hrefused]
    exact .refused x _ _ hcur rfl
  · next hdone =>
    obtain ⟨-, d, rfl⟩ := busRead_done hdone
    split at h <;> cases h <;> exact .accessed x _ _ s.mem d hcur rfl

theorem writeElement_effect {x : Ctx} {s t : State} (hcur : s.cur = some x) (h : writeElement x s = .next t) :
    MoverEffect s t := by
  simp only [writeElement] at h
  split at h
  · cases h
  · next hrefused =>
    cases h
    rw [busWrite_error hrefused]
    exact .refused x _ _ hcur rfl
  · next hdone =>
    obtain ⟨m, -, rfl⟩ := busWrite_done hdone
    split at h <;> cases h <;> exact .accessed x _ _ m s.draws hcur rfl

theorem loadWord_effect {x : Ctx} {got : List Byte} {s t : State} (hcur : s.cur = some x)
    (h : loadWord x got s = .next t) : MoverEffect s t := by
  rcases loadWord_next h with ⟨e, rfl⟩ | ⟨b, s', hdone, rfl⟩
  · exact .accessed x _ e s.mem s.draws hcur rfl
  · obtain ⟨-, d, rfl⟩ := busRead_done hdone
    exact .accessed x _ _ s.mem d hcur rfl

theorem completion_effect {x : Ctx} {s t : State} (hcur : s.cur = some x) (h : completion x s = .next t) :
    MoverEffect s t := by
  rcases completion_next h with ⟨-, rfl⟩ | ⟨-, -, rfl⟩ | ⟨-, -, -, rfl⟩ | ⟨-, -, got, -, -, rfl⟩ | ⟨-, -, got, hload, -⟩
  · exact .completed x hcur (.minor _)
  · exact .completed x hcur .major
  · exact .completed x hcur .majorFailed
  · exact .completed x hcur (.majorLoaded got)
  · exact loadWord_effect hcur hload

theorem moverStep_effect {s t : State} (h : moverStep s = .next t) : MoverEffect s t := by
  rcases moverStep_next h with ⟨y, hcur, hsusp, rfl⟩ | ⟨hcur, hsusp, rfl⟩ | ⟨x, hcur, -, hwrite⟩ |
    ⟨x, hcur, -, -, hcomp⟩ | ⟨x, k, s', hcur, -, -, -, hchoose, rfl⟩ | ⟨x, hcur, -, -, hread⟩
  · exact .resumed y hcur hsusp
  · exact .arbitrated hcur hsusp
  · exact writeElement_effect hcur hwrite
  · exact completion_effect hcur hcomp
  · obtain ⟨hmem, -, hdraw⟩ := choose_some hchoose
    obtain ⟨hsusp, hreq⟩ := mem_preemptors hmem
    exact .preempted x k s' hcur hsusp hreq hdraw
  · exact readElement_effect hcur hread

theorem Completed.stopped {x : Ctx} {s t : State} (h : Completed x s t) : Stopped x.ch s t := by
  cases h with
  | minor newc => exact (stopped_minorDone x newc s).retire
  | major => exact Stopped.retire ((stopped_majorCommit x s).of_eq rfl rfl rfl rfl)
  | majorLoaded image => exact ((stopped_majorCommit x s).loaded _).retire
  | majorFailed => exact (stopped_majorCommit x s).raiseChannelError _

theorem Completed.cur {x : Ctx} {s t : State} (h : Completed x s t) : t.cur = none := by
  cases h <;> rfl

/-! ### Accesses and registers (R31, R97) -/

@[simp] theorem arbitrate_trace (s : State) : (arbitrate s).trace = s.trace := by
  rcases arbitrate_cases s with ⟨c, s', -, rfl | rfl, h⟩ | h <;> simp [h]

@[simp] theorem retire_trace (c : Chan) (s : State) : (retire c s).trace = s.trace := by
  unfold retire cancelCheck
  split
  · rfl
  · split <;> rfl

theorem Completed.trace {x : Ctx} {s t : State} (h : Completed x s t) : t.trace = s.trace := by
  have hcommit : (majorCommit x s).trace = s.trace := by rw [majorCommit_eq]
  cases h with
  | minor newc => rw [retire_trace, minorDone_eq]
  | major => exact (retire_trace _ _).trans hcommit
  | majorLoaded image => exact (retire_trace _ _).trans hcommit
  | majorFailed => exact hcommit

/-- A step of the data mover whose access is taken changes the executing context, memory, the trace and the draws, and
nothing else. -/
theorem MoverEffect.of_taken {s t : State} {e : BusEvent} (h : MoverEffect s t) (htrace : t.trace = e :: s.trace)
    (htaken : e.taken = true) :
    t = { s with cur := t.cur, mem := t.mem, draws := t.draws, trace := t.trace } := by
  have hnone (htr : t.trace = s.trace) : False := by simp [htr] at htrace
  cases h with
  | resumed => exact (hnone rfl).elim
  | arbitrated => exact (hnone (arbitrate_trace s)).elim
  | accessed => rfl
  | refused x e' kind _ hrefused =>
    rw [raiseChannelError_trace, State.logBus_trace, List.cons.injEq] at htrace
    simp [← htrace.1, hrefused] at htaken
  | completed x _ hend => exact (hnone hend.trace).elim
  | preempted x k s' _ _ _ hdraw =>
    refine (hnone ?_).elim
    rw [activate_trace]
    rcases hdraw with rfl | rfl <;> rfl

/-- A step of the machine in which the data mover is next is the data mover's. -/
theorem step_of_moverNext {s : State} (h : moverNext s) : step s = moverStep s := by
  obtain ⟨hagenda, hreset⟩ := h
  simp [step, nextStep, hagenda, moverTurn, hreset]

/-- Settles O49: of the steps of the data mover only a part of an access has a taken access. -/
theorem busAccessChangesNoRegister : Obligations.BusAccessChangesNoRegister := by
  rintro s t hnext hstep ⟨e, htrace, htaken⟩
  have heffect := moverStep_effect ((step_of_moverNext hnext).symm.trans hstep)
  rw [heffect.of_taken htrace htaken]
  simp

/-! ### Invariants of every step -/

/-- `P` is kept by everything a step can consist of: what lies outside the block changes, a byte string is stored into
memory, a trigger is pulsed, the block is reset, the host operates, or the data mover steps. -/
structure KeptByParts (P : State → Prop) : Prop where
  outside : ∀ {s : State} (reply : Reply) (line : BitVec 128) (held : Bool) (draws : Nat) (agenda : List Event), P s →
    P { s with hostReply := reply, srcline := line, inReset := held, draws := draws, agenda := agenda }
  stored : ∀ {s : State} (a : Addr) (b : List Byte), P s → P { s with mem := s.mem.write a b }
  pulsed : ∀ {s : State} (n : Chan) (b : Bool), P s → P (s.setTrg n b)
  reset : ∀ {s : State}, P s → P (blockReset s)
  host : ∀ {i : Instr} {s t : State}, exec i s = .next t → P s → P t
  mover : ∀ {s t : State}, MoverEffect s t → P s → P t

namespace KeptByParts

variable {P : State → Prop} (k : KeptByParts P)
include k

theorem of_hostOperation {f : Format} {bytes : List Byte} {s t : State} (h : hostOperation f bytes s = .next t)
    (hs : P s) : P t := by
  obtain ⟨-, ⟨i, -, hexec⟩ | rfl | rfl | rfl⟩ := hostOperation_next h
  · exact k.host hexec hs
  · exact k.outside .busError _ _ _ _ hs
  · exact k.outside (.value _) _ _ _ _ hs
  · exact hs

theorem of_hostMemory {a : Addr} {w : Width} {d : Dir} {v : Word} {s t : State} (h : hostMemory a w d v s = .next t)
    (hs : P s) : P t := by
  unfold hostMemory at h
  split at h <;> cases h
  · exact k.outside (.value _) _ _ _ _ hs
  · exact k.outside .ack _ _ _ _ (k.stored a _ hs)
  · exact k.outside (s := s) (.value _) _ _ (s.draws + 1) _ hs
  · exact k.outside .ack _ _ _ _ hs
  · exact k.outside .busError _ _ _ _ hs

theorem of_hostAccess {a : Addr} {w : Width} {d : Dir} {v : Word} {s t : State} (h : hostAccess a w d v s = .next t)
    (hs : P s) : P t := by
  unfold hostAccess at h
  split at h
  · exact k.of_hostOperation h hs
  · split at h
    · exact k.of_hostOperation h hs
    · exact k.of_hostMemory h hs

theorem of_moverTurn {s t : State} (h : moverTurn s = .next t) (hs : P s) : P t := by
  unfold moverTurn at h
  split at h
  · cases h; exact hs
  · exact k.mover (moverStep_effect h) hs

theorem of_applyPulse {n : BitVec 2} {s : State} (hs : P s) : P (applyPulse n s) := by
  simp only [applyPulse]
  split
  · exact k.pulsed _ _ hs
  · exact hs

theorem of_applyReset {level : Bool} {s : State} (hs : P s) : P (applyReset level s) := by
  cases level with
  | false => exact k.outside _ _ false _ _ hs
  | true => exact k.outside _ _ true _ _ (k.reset hs)

theorem of_runEvent {e : Event} {s t : State} (h : runEvent e s = .next t) (hs : P s) : P t := by
  cases e with
  | host f bytes => exact k.of_hostOperation h hs
  | bus a w d v => exact k.of_hostAccess h hs
  | mover => exact k.of_moverTurn h hs
  | line slot level => cases h; exact k.outside _ _ _ _ _ hs
  | pulse n => cases h; exact k.of_applyPulse hs
  | reset level => cases h; exact k.of_applyReset hs

/-- What every part keeps, every step of the machine keeps. -/
theorem of_step {s t : State} (h : step s = .next t) (hs : P s) : P t := by
  rcases step_next h with ⟨-, hturn⟩ | ⟨e, rest, -, hevent⟩
  · exact k.of_moverTurn hturn hs
  · exact k.of_runEvent hevent (k.outside _ _ _ _ rest hs)

end KeptByParts

/-! ### `ACTIVE` marks the executing channels (R60, R211) -/

@[simp] theorem isOf_none (n : Chan) : isOf none n = false := rfl
@[simp] theorem isOf_some (x : Ctx) (n : Chan) : isOf (some x) n = (x.ch == n) := rfl

/-- The agreement speaks of the `ACTIVE` bits and of the channels of the contexts only. -/
theorem executionAgrees_congr {s t : State} (hs : executionAgrees s)
    (hactive : ∀ n, csrActive (t.slot n) = csrActive (s.slot n)) (hcur : t.cur.map Ctx.ch = s.cur.map Ctx.ch)
    (hsusp : t.susp = s.susp) : executionAgrees t := by
  obtain ⟨hagree, hdiffer⟩ := hs
  have hisOf (n : Chan) : isOf t.cur n = isOf s.cur n := by
    have heq (o : Option Ctx) : isOf o n = (o.map Ctx.ch).any (· == n) := by cases o <;> rfl
    rw [heq, heq, hcur]
  refine ⟨fun n => ?_, ?_⟩
  · rw [hactive, hagree n, executes, executes, hisOf, hsusp]
  · have heq (o p : Option Ctx) : (o.all fun x => p.all fun y => x.ch != y.ch) =
        (o.map Ctx.ch).all fun c => p.all fun y => c != y.ch := by cases o <;> rfl
    rwa [contextsDiffer, heq, hcur, hsusp, ← heq]

/-- When the executing channel stops, the suspended one is left. -/
theorem executionAgrees_of_stopped {x : Ctx} {s t : State} (hs : executionAgrees s) (hcur : s.cur = some x)
    (hstop : Stopped x.ch s t) (hnone : t.cur = none) : executionAgrees t := by
  obtain ⟨hagree, hdiffer⟩ := hs
  refine ⟨fun n => ?_, by simp [contextsDiffer, hnone]⟩
  rw [hstop.active, executes, hnone, hstop.susp]
  by_cases hn : n = x.ch
  · subst hn
    cases hsusp : s.susp with
    | none => simp
    | some y =>
      have hne : x.ch ≠ y.ch := by simpa [contextsDiffer, hcur, hsusp] using hdiffer
      simp [hne.symm]
  · have hne : x.ch ≠ n := fun h => hn h.symm
    simp [hn, hne, hagree n, executes, hcur]

/-- When nothing executes, a channel that is not the suspended one may start. -/
theorem executionAgrees_of_started {x : Ctx} {s t : State} (hs : executionAgrees s) (hnone : s.cur = none)
    (hidle : csrActive (s.slot x.ch) = false)
    (hactive : ∀ n, csrActive (t.slot n) = if n = x.ch then true else csrActive (s.slot n)) (hcur : t.cur = some x)
    (hsusp : t.susp = s.susp) : executionAgrees t := by
  obtain ⟨hagree, -⟩ := hs
  have hsuspended (n : Chan) : csrActive (s.slot n) = isOf s.susp n := by simpa [executes, hnone] using hagree n
  refine ⟨fun n => ?_, ?_⟩
  · rw [hactive, executes, hcur, hsusp, hsuspended]
    by_cases hn : n = x.ch
    · simp [hn]
    · have hne : x.ch ≠ n := fun h => hn h.symm
      simp [hn, hne]
  · rw [contextsDiffer, hcur, hsusp]
    cases hy : s.susp with
    | none => rfl
    | some y =>
      have hne : y.ch ≠ x.ch := by simpa [hidle, hy] using hsuspended x.ch
      simpa using hne.symm

theorem csrActive_markActive (c n : Chan) (s : State) :
    csrActive ((markActive c s).slot n) = if n = c then true else csrActive (s.slot n) := by
  rw [slot_markActive]
  split <;> simp

/-- An idle channel starts to execute, or its check fails and it stays idle (R140). -/
theorem executionAgrees_activate {s : State} {c : Chan} (hs : executionAgrees s) (hcur : s.cur = none)
    (hidle : csrActive (s.slot c) = false) : executionAgrees (activate c s) := by
  rcases activate_cases c s with ⟨-, hact⟩ | ⟨-, hact⟩ <;> rw [hact]
  · exact executionAgrees_of_started (x := startCtx c (s.slot c)) hs hcur hidle (csrActive_markActive c · s) rfl
      (markActive_susp c s)
  · refine executionAgrees_congr hs (fun n => ?_) (by simp [hcur]) (by simp)
    rw [(stopped_raiseChannelError ..).active, csrActive_markActive]
    by_cases hn : n = c <;> simp [hn, hidle]

/-- The executing context may be set aside as the suspended one, and the other way round (R211, R212). -/
theorem executionAgrees_swap {s : State} (hs : executionAgrees s) :
    executionAgrees { s with cur := s.susp, susp := s.cur } := by
  obtain ⟨hagree, hdiffer⟩ := hs
  refine ⟨fun n => (hagree n).trans (Bool.or_comm ..), ?_⟩
  cases hcur : s.cur with
  | none => cases hsusp : s.susp <;> rfl
  | some x =>
    cases hsusp : s.susp with
    | none => rfl
    | some y =>
      have hne : x.ch ≠ y.ch := by simpa [contextsDiffer, hcur, hsusp] using hdiffer
      simpa [contextsDiffer] using hne.symm

theorem executionAgrees_mover {s t : State} (h : MoverEffect s t) (hs : executionAgrees s) : executionAgrees t := by
  cases h with
  | resumed y hcur hsusp => simpa [hcur, hsusp] using executionAgrees_swap hs
  | arbitrated hcur _ =>
    rcases arbitrate_cases s with ⟨c, s', hreq, hdraw, h⟩ | h <;> rw [h]
    · have hidle := csrActive_of_req hreq
      rcases hdraw with rfl | rfl
      · exact executionAgrees_activate hs hcur hidle
      · exact executionAgrees_activate (s := s.drawn) hs hcur hidle
    · exact hs
  | accessed x y e m d hcur hch => exact executionAgrees_congr hs (fun _ => rfl) (by simp [hcur, hch]) rfl
  | refused x e kind hcur _ =>
    exact executionAgrees_of_stopped (s := s.logBus e) hs hcur (stopped_raiseChannelError ..) rfl
  | completed x hcur hend => exact executionAgrees_of_stopped hs hcur hend.stopped hend.cur
  | preempted x k s' hcur hsusp hreq hdraw =>
    have hidle := csrActive_of_req hreq
    have haside : executionAgrees { s with susp := some x, cur := none } := by
      simpa [hcur, hsusp] using executionAgrees_swap hs
    rcases hdraw with rfl | rfl
    · exact executionAgrees_activate haside rfl hidle
    · exact executionAgrees_activate (s := { s.drawn with susp := some x, cur := none }) haside rfl hidle

theorem executionAgrees_keptByParts : KeptByParts executionAgrees where
  outside _ _ _ _ _ hs := hs
  stored _ _ hs := hs
  pulsed n b hs := executionAgrees_congr hs (fun m => by rw [slot_congr (State.setTrg_tcd ..)]) (by simp) (by simp)
  reset _ := ⟨fun n => by simp [State.slot, executes, csrActive, slotUnspecified], rfl⟩
  host hexec hs :=
    have heffect := exec_hostEffect hexec
    executionAgrees_congr hs (fun n => (heffect.slot n).csrActive_eq) (by rw [heffect.cur]) heffect.susp
  mover := executionAgrees_mover

/-- Settles O55: every part of a step keeps the agreement. -/
theorem activeMarksExecutingChannels : Obligations.ActiveMarksExecutingChannels :=
  fun _ _ hs hstep => executionAgrees_keptByParts.of_step hstep hs

/-! ### The reserved bits (R34) -/

/-- The stored reserved bits stay 0 where none of them is set. -/
theorem reservedZero_of_imp {s t : State} (hs : reservedZero s)
    (hslot : ∀ n, csrReserved (t.slot n) = true → csrReserved (s.slot n) = true)
    (hes : t.es.getLsbD 13 = true → s.es.getLsbD 13 = true)
    (htrig : ∀ n : Chan, 4 ≤ n.toNat → (t.cfg n).trig = true → (s.cfg n).trig = true) : reservedZero t := by
  obtain ⟨hcsr, herr, hcfg⟩ := hs
  refine ⟨fun n => ?_, ?_, fun n hn => ?_⟩ <;> rw [← Bool.not_eq_true]
  · exact fun h => Bool.false_ne_true ((hcsr n).symm.trans (hslot n h))
  · exact fun h => Bool.false_ne_true (herr.symm.trans (hes h))
  · exact fun h => Bool.false_ne_true ((hcfg n hn).symm.trans (htrig n hn h))

theorem reservedZero_of_stopped {c : Chan} {s t : State} (hs : reservedZero s) (hstop : Stopped c s t) :
    reservedZero t :=
  reservedZero_of_imp hs hstop.reserved hstop.es fun n _ h => by rwa [cfg_congr hstop.chcfg] at h

/-- Activation writes the flags of R140, and a failed check records kinds and a channel (R288). -/
theorem reservedZero_activate {s : State} (hs : reservedZero s) (c : Chan) : reservedZero (activate c s) := by
  have hmark : reservedZero (markActive c s) := by
    refine reservedZero_of_imp hs (fun n => ?_) (by simp) fun n _ h => by rwa [cfg_congr (markActive_chcfg c s)] at h
    rw [slot_markActive]
    split
    · next hn => simp [hn]
    · exact id
  rcases activate_cases c s with ⟨-, hact⟩ | ⟨-, hact⟩ <;> rw [hact]
  · exact hmark
  · exact reservedZero_of_stopped hmark (stopped_raiseChannelError ..)

theorem reservedZero_mover {s t : State} (h : MoverEffect s t) (hs : reservedZero s) : reservedZero t := by
  cases h with
  | resumed => exact hs
  | arbitrated =>
    rcases arbitrate_cases s with ⟨c, s', -, rfl | rfl, h⟩ | h <;> rw [h]
    · exact reservedZero_activate hs c
    · exact reservedZero_activate (s := s.drawn) hs c
    · exact hs
  | accessed => exact hs
  | refused x e kind => exact reservedZero_of_stopped (s := s.logBus e) hs (stopped_raiseChannelError ..)
  | completed x _ hend => exact reservedZero_of_stopped hs hend.stopped
  | preempted x k s' _ _ _ hdraw =>
    rcases hdraw with rfl | rfl
    · exact reservedZero_activate (s := { s' with susp := some x, cur := none }) hs k
    · exact reservedZero_activate (s := { s.drawn with susp := some x, cur := none }) hs k

theorem reservedZero_keptByParts : KeptByParts reservedZero where
  outside _ _ _ _ _ hs := hs
  stored _ _ hs := hs
  pulsed n b hs := reservedZero_of_imp hs (fun m => by rw [slot_congr (State.setTrg_tcd ..)]; exact id) (by simp)
    fun m _ h => by rwa [cfg_congr (State.setTrg_chcfg ..)] at h
  reset _ := ⟨fun n => by simp [State.slot, slotUnspecified], by simp, fun n _ => by simp [State.cfg, ChCfg.atReset]⟩
  host hexec hs :=
    have heffect := exec_hostEffect hexec
    reservedZero_of_imp hs (fun n => (heffect.slot n).csrReserved_imp) (by rw [heffect.es]; exact id) heffect.trig
  mover := reservedZero_mover

/-- Settles O56: no part of a step sets a reserved bit. -/
theorem reservedBitsStayZero : Obligations.ReservedBitsStayZero :=
  fun _ _ hs hstep => reservedZero_keptByParts.of_step hstep hs

/-! ### The reset state (R70) -/

@[simp] theorem slot_reset (n : Chan) : State.reset.slot n = slotAtReset := by simp [State.slot, State.reset]
@[simp] theorem cfg_reset (n : Chan) : State.reset.cfg n = .atReset := by simp [State.cfg, State.reset]
@[simp] theorem pri_reset (n : Chan) : State.reset.pri n = .atReset n.toNat := by simp [State.pri, State.reset]

/-- No channel requests by hardware at reset: none is enabled. -/
@[simp] theorem hwRequest_reset (n : Chan) : hwRequest State.reset n = false := by simp [hwRequest, State.reset]

/-- Settles O60: at reset no context exists and every stored bit that an invariant speaks of is 0. -/
theorem resetMeetsInvariants : Obligations.ResetMeetsInvariants := by
  have hslot : csrActive slotAtReset = false ∧ slotAtReset.csr.getLsbD 13 = false := by decide
  refine ⟨rfl, ⟨fun n => ?_, rfl⟩, ⟨fun n => ?_, rfl, fun n _ => ?_⟩, ?_, fun x h => ?_, fun y h => ?_⟩
  · rw [slot_reset, hslot.1]; rfl
  · rw [slot_reset, hslot.2]
  · rw [cfg_reset]; rfl
  · intro h; cases h
  · cases h
  · cases h

/-- Settles O52, register by register; `CHPRI` wraps at 16 as its four bits do. -/
theorem resetStateValues : Obligations.ResetStateValues := by
  refine ⟨by decide, by decide, rfl, rfl, rfl, rfl, ?_, fun n => ⟨?_, ?_, ?_, ?_, ?_⟩, rfl, rfl, rfl, rfl, by decide⟩
  · rw [hrsRead, funext hwRequest_reset]; decide
  · have hwrap : BitVec.ofNat 4 n.toNat = BitVec.ofNat 4 (n.toNat % 16) := BitVec.eq_of_toNat_eq (by simp)
    rw [pri_reset, ChPri.atReset, hwrap]
  · rw [slot_reset]; rfl
  · rw [chcfgRead, cfg_reset]; rfl
  · rw [chstate, slot_reset, cfg_reset, hwRequest_reset]
    simp [State.reset, slotAtReset, ChCfg.atReset, csrActive, csrDone, csrStart]
  · simp [irqCh, State.reset]

/-! ### Input events (R63, R190, R194) -/

/-- A trigger latch after one was written, for channel numbers: only the channels 0 to 3 have one (R62). -/
theorem getLsbD_setTrg (s : State) (n m : Chan) (b : Bool) :
    (s.setTrg n b).trg.getLsbD m.toNat = if m = n ∧ n.toNat < 4 then b else s.trg.getLsbD m.toNat := by
  rw [State.setTrg_trg]
  by_cases hn : n.toNat < 4
  · rw [if_pos hn, getLsbD_putBit]
    by_cases hm : m = n
    · simp [hm, hn]
    · have hne : n ≠ m := fun h => hm h.symm
      simp [hm, hne]
  · simp [hn]

theorem setTrg_eq (s : State) (n : Chan) (b : Bool) : s.setTrg n b = { s with trg := (s.setTrg n b).trg } := by
  unfold State.setTrg
  split <;> rfl

theorem trg_applyPulse (k : BitVec 2) (s : State) (m : Chan) :
    (applyPulse k s).trg.getLsbD m.toNat =
      if m = k.setWidth 5 ∧ (s.cfg m).enbl = true ∧ (s.cfg m).trig = true then true else s.trg.getLsbD m.toNat := by
  have hlatch : (k.setWidth 5 : Chan).toNat < 4 := by
    rw [BitVec.toNat_setWidth_of_le (by decide)]
    exact k.isLt
  simp only [applyPulse, Bool.and_eq_true]
  by_cases hm : m = k.setWidth 5
  · subst hm
    by_cases hmode : (s.cfg (k.setWidth 5)).enbl = true ∧ (s.cfg (k.setWidth 5)).trig = true
    · rw [if_pos hmode, getLsbD_setTrg, if_pos ⟨rfl, hlatch⟩, if_pos ⟨rfl, hmode⟩]
    · rw [if_neg hmode, if_neg fun h => hmode h.2]
  · split <;> simp [getLsbD_setTrg, hm]

theorem applyPulse_eq (k : BitVec 2) (s : State) : applyPulse k s = { s with trg := (applyPulse k s).trg } := by
  simp only [applyPulse]
  split
  · exact setTrg_eq ..
  · rfl

/-- A channel bound to a line in normal mode shows the line's level (R191, R192). -/
theorem rout_normal {s : State} {n : Chan} {slot : BitVec 7}
    (hcfg : s.cfg n = { enbl := true, trig := false, aOn := false, source := slot }) (hslot : slot ≠ 0) :
    rout s n = s.srcline.getLsbD slot.toNat := by
  simpa [rout, hcfg] using fun _ => hslot

theorem srcline_applyLine (slot m : BitVec 7) (level : Bool) (s : State) :
    (applyLine slot level s).srcline.getLsbD m.toNat = if m = slot then level else s.srcline.getLsbD m.toNat := by
  have hm : m.toNat < 128 := m.isLt
  have hnum : slot.toNat = m.toNat ↔ m = slot := BitVec.toNat_inj.trans eq_comm
  simp only [applyLine, getLsbD_putBit, hm, hnum, and_true]

/-- Settles O28: the step of an input event is `applyPulse` or `applyLine`. -/
theorem pulseAndLineEvents : Obligations.PulseAndLineEvents := by
  refine ⟨fun s k rest hagenda => ?_, fun s slot level rest hagenda => ?_⟩
  · exact ⟨applyPulse k { s with agenda := rest }, step_of_agenda_cons s _ rest hagenda,
      trg_applyPulse k { s with agenda := rest }, applyPulse_eq k { s with agenda := rest },
      fun a => by rw [applyPulse_eq]⟩
  · refine ⟨applyLine slot level { s with agenda := rest }, step_of_agenda_cons s _ rest hagenda,
      fun m => srcline_applyLine slot m level _, fun n hcfg hslot => ?_, rfl, fun a => rfl⟩
    exact (rout_normal (s := applyLine slot level { s with agenda := rest }) hcfg hslot).trans
      ((srcline_applyLine ..).trans (if_pos rfl))

/-! ### Slots written as a whole (R110, R172, R331) -/

theorem storeWord_of_active {w : Nat} {put : Tcd → BitVec w → Tcd} {n : Chan} {v : BitVec w} {s : State}
    (h : csrActive (s.slot n) = true) : storeWord put n v s = .refused (.slotBusy n) := by
  simp [storeWord, slotAccess, h]

theorem execTcd_of_active {n : Chan} {d : Tcd} {s : State} (h : csrActive (s.slot n) = true) :
    execTcd n d s = .refused (.slotBusy n) := by
  simp [execTcd, h]

theorem execTcd_of_idle {n : Chan} {d : Tcd} {s : State} (h : csrActive (s.slot n) = false) :
    execTcd n d s = .next (s.setSlot n (slotImage d)).ack := by
  simp [execTcd, h]

/-- A slot replaced by an operation of the host: every other slot and everything else stays. -/
theorem wroteSlot_setSlot (s : State) (n : Chan) (u : Tcd) : wroteSlot s (s.setSlot n u).ack n u := by
  refine ⟨rfl, slot_setSlot_self s n u, fun m hm => ?_, fun a => rfl⟩
  rw [slot_congr (State.ack_tcd _), slot_setSlot, if_neg hm]

/-- Settles O22: `execTcd` and the eight stores of a word, each with the one check of `ACTIVE`. -/
theorem descriptorLoad : Obligations.DescriptorLoad := by
  intro s n d
  refine ⟨fun hactive aw c30 sm dm o c10 f c15 r k c9 cw v l i hi => ?_, fun hidle => ?_⟩
  · simp only [List.mem_cons, List.not_mem_nil, or_false] at hi
    rcases hi with rfl | rfl | rfl | rfl | rfl | rfl | rfl | rfl | rfl
    case inl => exact execTcd_of_active hactive
    all_goals
      simp only [exec, execAttr, execNbytesPlain, execNbytesOff, execIterPlain, execIterLink, execCsr, execDlast, execSga]
      exact storeWord_of_active hactive
  · exact ⟨(s.setSlot n (slotImage d)).ack, (slotImage d).csr, execTcd_of_idle hidle, wroteSlot_setSlot s n _,
      getLsbD_csr_slotImage d⟩

/-! ### Accesses to the two surfaces (R121, R122, R230 to R232) -/

/-- The width code of an explicit width agrees with a register's own width exactly when they are equal (R231). -/
theorem widthAgrees_controlByte (w : Width) (d : Dir) (own : Nat) :
    widthAgrees (controlByte w d) own = true ↔ own = w.bytes := by
  cases w <;> cases d <;> simp [widthAgrees, controlByte, Width.bytes]

theorem getLsbD_controlByte_zero (w : Width) (d : Dir) : (controlByte w d).getLsbD 0 = (d == .write) := by
  cases w <;> cases d <;> rfl

/-- The bytes of an access to the engine's surface decode at its offset, control byte and value. -/
theorem decode_engAccessBytes (off : Half) (w : Width) (d : Dir) (v : Word) :
    decode .eng16 (engAccessBytes off w d v) = decodeEng16 off (controlByte w d) v := by
  simp only [engAccessBytes, bytes16, bytes32, List.cons_append, List.nil_append, decode, concat_bytes16, concat_bytes32]

/-- The bytes of an access to the router's surface decode at its offset, control byte and value. -/
theorem decode_muxAccessBytes (off : Byte) (w : Width) (d : Dir) (v : Word) :
    decode .mux8 (muxAccessBytes off w d v) = decodeMux8 off (controlByte w d) v := by
  simp only [muxAccessBytes, bytes32, decode, concat_bytes32]

/-- A mask of bits from `k` up meets no bit of a value below `2^k`. -/
theorem and_eq_zero_of_lt {n : Nat} {a m : BitVec n} (k : Nat) (ha : a.toNat < 2 ^ k) (hm : m.toNat % 2 ^ k = 0) :
    a &&& m = 0 := by
  refine BitVec.eq_of_toNat_eq (Nat.eq_of_testBit_eq fun i => ?_)
  rw [BitVec.toNat_and, Nat.testBit_and, show (0 : BitVec n).toNat = 0 by simp, Nat.zero_testBit]
  by_cases hi : i < k
  · have hlow : m.toNat.testBit i = (m.toNat % 2 ^ k).testBit i := by simp [Nat.testBit_mod_two_pow, hi]
    rw [hlow, hm, Nat.zero_testBit, Bool.and_false]
  · have hhigh : a.toNat.testBit i = false :=
      Nat.testBit_lt_two_pow (Nat.lt_of_lt_of_le ha (Nat.pow_le_pow_right (by decide) (Nat.le_of_not_lt hi)))
    rw [hhigh, Bool.false_and]

/-- The low two bits are those of the remainder by 4. -/
theorem and_three_eq_zero_iff (a : Byte) : a &&& 0x03 = 0 ↔ a.toNat % 4 = 0 := by
  have hmod : (a &&& 0x03).toNat = a.toNat % 4 := by
    rw [BitVec.toNat_and]
    exact Nat.and_two_pow_sub_one_eq_mod a.toNat 2
  rw [← hmod, ← BitVec.toNat_inj]
  rfl

/-- An access to the engine's surface at an offset of no register, or not at the register's own width. -/
theorem decodeEng16_unmapped {off : Half} {w : Width} {d : Dir} {v : Word} (hin : off.toNat < 0x2000)
    (hno : ∀ r, engSelect off = some r → engWidth r ≠ w.bytes) :
    decodeEng16 off (controlByte w d) v = .error .unmapped := by
  unfold decodeEng16
  split
  · next r hr => rw [if_neg fun h => hno r hr ((widthAgrees_controlByte w d _).1 h)]
  · have hsurface : off &&& 0xE000 = 0 := and_eq_zero_of_lt 13 hin (by decide)
    rw [if_pos hsurface]

/-- An access to the router's surface at an offset that is no multiple of 4, or not of 4 bytes (R122). -/
theorem decodeMux8_unmapped {off : Byte} {w : Width} {d : Dir} {v : Word} (hin : off.toNat < 0x80)
    (hno : off.toNat % 4 ≠ 0 ∨ w ≠ .four) : decodeMux8 off (controlByte w d) v = .error .unmapped := by
  have hsurface : off &&& 0x80 = 0 := and_eq_zero_of_lt 7 hin (by decide)
  have hpart : ¬ (off &&& 0x03 = 0 ∧ widthAgrees (controlByte w d) 4 = true) := by
    rw [and_three_eq_zero_iff, widthAgrees_controlByte]
    rintro ⟨hoff, hwidth⟩
    rcases hno with h | h
    · exact h hoff
    · cases w <;> simp [Width.bytes] at hwidth h
  rw [decodeMux8, if_neg (not_not.2 hsurface), if_neg hpart]

/-- Out of reset, an access that selects no register is a bus error to the host, and the block stays as it is. -/
theorem hostOperation_of_unmapped {f : Format} {bytes : List Byte} {s : State} (hreset : s.inReset = false)
    (h : decode f bytes = .error .unmapped) : hostOperation f bytes s = .next s.hostBusError := by
  simp [hostOperation, hreset, h]

/-- A load of a command register, which is written only, returns 0 (R25). -/
theorem hostOperation_of_writeOnlyRead {f : Format} {bytes : List Byte} {s : State} (hreset : s.inReset = false)
    (h : decode f bytes = .error .writeOnlyRead) : hostOperation f bytes s = .next (s.returns (0 : Byte)) := by
  simp [hostOperation, hreset, h]

/-- R121's table again, for an access of a given width: the width and the offset are a pair of the table. -/
theorem engSelect_width_table {off : Half} {r : EngReg} {w : Width} (hr : engSelect off = some r)
    (hw : engWidth r = w.bytes) :
    (w = .four ∧ off.toNat ∈ [0x0000, 0x0004, 0x000C, 0x0014, 0x0024, 0x002C, 0x0034]) ∨
    (w = .one ∧ (0x0018 ≤ off.toNat ∧ off.toNat ≤ 0x001F ∨ 0x0100 ≤ off.toNat ∧ off.toNat ≤ 0x011F)) ∨
    (0x1000 ≤ off.toNat ∧ off.toNat ≤ 0x13FF ∧
      (w = .four ∧ off.toNat % 0x20 ∈ [0x00, 0x08, 0x0C, 0x10, 0x18] ∨
       w = .two ∧ off.toNat % 0x20 ∈ [0x04, 0x06, 0x14, 0x16, 0x1C, 0x1E])) := by
  have hfour : engWidth r = 4 ↔ w = .four := by rw [hw]; cases w <;> decide
  have hone : engWidth r = 1 ↔ w = .one := by rw [hw]; cases w <;> decide
  have htwo : engWidth r = 2 ↔ w = .two := by rw [hw]; cases w <;> decide
  have htable := engSelect_table hr
  rwa [hfour, hone, htwo] at htable

/-- Settles O4: an offset and width outside the table decode to `unmapped`; a command register is written only. -/
theorem unselectedAccessesAreBusErrors : Obligations.UnselectedAccessesAreBusErrors := by
  intro s rest w d v hreset
  refine ⟨fun off hin hregs hbytes hslots hagenda => ?_, fun off hin hno hagenda => ?_, fun k hagenda => ?_⟩
  · rw [step_of_agenda_cons s _ rest hagenda]
    refine hostOperation_of_unmapped hreset ((decode_engAccessBytes ..).trans (decodeEng16_unmapped hin fun r hr hw => ?_))
    rcases engSelect_width_table hr hw with h | h | h
    · exact hregs h
    · exact hbytes h
    · exact hslots h
  · rw [step_of_agenda_cons s _ rest hagenda]
    exact hostOperation_of_unmapped hreset ((decode_muxAccessBytes ..).trans (decodeMux8_unmapped hin hno))
  · have hselect : engSelect (0x18 + k.setWidth 16) = some (.command k) := engSelect_engOffset (.command k)
    rw [step_of_agenda_cons s _ rest hagenda]
    refine hostOperation_of_writeOnlyRead hreset ?_
    rw [decode_engAccessBytes, decodeEng16, hselect]
    rfl

/-- The offset of `CHCFG[n]` decodes to the access to it, of the direction and value made (R122, R243). -/
theorem decode_chcfg (n : Chan) (d : Dir) (v : Word) :
    decode .mux8 (muxAccessBytes (4 * n.setWidth 8) .four d v) = .ok (.chcfg n (accessOf 32 (d == .write) v)) := by
  have hoff : (4 * n.setWidth 8 : Byte) &&& 0x80 = 0 ∧ (4 * n.setWidth 8 : Byte) &&& 0x03 = 0 ∧
      (4 * n.setWidth 8 : Byte).extractLsb' 2 5 = n := by
    revert n; decide
  obtain ⟨hsurface, haligned, hchan⟩ := hoff
  have hwidth : widthAgrees (controlByte .four d) 4 = true := (widthAgrees_controlByte ..).2 rfl
  rw [decode_muxAccessBytes, decodeMux8, if_neg (not_not.2 hsurface), if_pos ⟨haligned, hwidth⟩, hchan,
    getLsbD_controlByte_zero]

theorem trg_writeChcfg (s : State) (n m : Chan) (v : Word) :
    (s.writeChcfg n v).trg.getLsbD m.toNat = if m = n then false else s.trg.getLsbD m.toNat := by
  rw [State.writeChcfg, getLsbD_setTrg, State.setCfg_trg]
  by_cases hm : m = n
  · subst hm
    by_cases h4 : m.toNat < 4
    · simp [h4]
    · rw [if_neg fun h => h4 h.2, if_pos rfl]
      exact BitVec.getLsbD_of_ge _ _ (Nat.le_of_not_lt h4)
  · rw [if_neg fun h => hm h.1, if_neg hm]

theorem cfg_writeChcfg (s : State) (n m : Chan) (v : Word) :
    (s.writeChcfg n v).cfg m =
      if m = n then { enbl := v.getLsbD 31, trig := decide (n.toNat < 4) && v.getLsbD 30, aOn := v.getLsbD 29,
                      source := v.extractLsb' 0 7 }
      else s.cfg m := by
  rw [State.writeChcfg, cfg_congr (State.setTrg_chcfg ..), cfg_setCfg]

theorem writeChcfg_eq (s : State) (n : Chan) (v : Word) :
    s.writeChcfg n v = { s with chcfg := (s.writeChcfg n v).chcfg, trg := (s.writeChcfg n v).trg } := by
  rw [State.writeChcfg, setTrg_eq]
  rfl

/-- `CHCFG[n]` as read, bit by bit (R243). -/
theorem getLsbD_chcfgRead (s : State) (n : Chan) (i : Nat) :
    (chcfgRead s n).getLsbD i =
      if i = 31 then (s.cfg n).enbl else if i = 30 then (s.cfg n).trig else if i = 29 then (s.cfg n).aOn
      else if i < 7 then (s.cfg n).source.getLsbD i else false := by
  simp only [chcfgRead, BitVec.getLsbD_append]
  by_cases hflag : i = 29 ∨ i = 30 ∨ i = 31
  · rcases hflag with rfl | rfl | rfl <;> simp
  obtain ⟨h29, h30, h31⟩ : i ≠ 29 ∧ i ≠ 30 ∧ i ≠ 31 := by omega
  by_cases hsource : i < 7
  · simp [hsource, h29, h30, h31]
  by_cases hzero : i < 29
  · simp [hsource, h29, h30, h31, show i - 7 < 22 by omega]
  · simp [hsource, h29, h30, h31, show i - 7 - 22 ≠ 0 by omega, show i - 7 - 22 - 1 ≠ 0 by omega,
      show i - 7 - 22 - 1 - 1 ≠ 0 by omega]

/-- Settles O21: the accesses decode to `chcfg`, which is `writeChcfg` on a store and `chcfgRead` on a load. -/
theorem routerRegisterAccess : Obligations.RouterRegisterAccess := by
  refine ⟨fun n v => ⟨decode_chcfg n .read v, ?_⟩, fun s n v => ?_, fun s n => ?_⟩
  · simpa [accessOf] using decode_chcfg n .write v
  · refine ⟨(s.writeChcfg n v).ack, rfl, ?_, fun m hm => ?_, fun m => trg_writeChcfg s n m v, ?_, fun a => ?_⟩
    · exact (cfg_writeChcfg s n n v).trans (if_pos rfl)
    · exact (cfg_writeChcfg s n m v).trans (if_neg hm)
    · exact congrArg State.ack (writeChcfg_eq s n v)
    · rw [State.ack_mem, writeChcfg_eq]
  · exact ⟨chcfgRead s n, by simp [readsAs, exec, execChcfg, State.returns], getLsbD_chcfgRead s n⟩

end Sys2Proof.Machine
end

/-! PROOF. Memory and the bus (20_memory.md): the host's accesses to the two windows and to memory (O5, O6), one bus
access of each kind of step of the data mover (O36, O37, O41), and what every step keeps: the canonical form of memory
(O54), the agreement of contexts and slots (O58) and the alignment of every access (O59). -/

namespace Sys2Proof.Machine

open Sys2Proof.Safety

/-! ### The windows of the two surfaces (R82, R230) -/

/-- An offset below `2^k` does not carry out of the low `k` bits of a page's base. -/
theorem extractLsb'_page_add {m k : Nat} (page : BitVec m) (off : BitVec (m + k)) (h : off.toNat < 2 ^ k) :
    (page ++ 0#k + off).extractLsb' k m = page := by
  have hpage : page.toNat * 2 ^ k + off.toNat < 2 ^ (m + k) := by
    have hle : (page.toNat + 1) * 2 ^ k ≤ 2 ^ m * 2 ^ k := Nat.mul_le_mul_right _ page.isLt
    rw [Nat.pow_add]
    linarith
  have hsum : (page ++ 0#k + off).toNat = page.toNat * 2 ^ k + off.toNat := by
    simp [BitVec.toNat_append, Nat.shiftLeft_eq, Nat.mod_eq_of_lt hpage]
  refine BitVec.eq_of_toNat_eq ?_
  rw [BitVec.extractLsb'_toNat, hsum, Nat.shiftRight_eq_div_pow, Nat.mul_comm, Nat.mul_add_div (Nat.two_pow_pos k),
    Nat.div_eq_of_lt h, Nat.add_zero, Nat.mod_eq_of_lt page.isLt]

theorem inEng_dmaBase_add (p : Platform) {off : Half} (h : off.toNat < 0x2000) :
    p.inEng (p.dmaBase + off.setWidth 32) = true := by
  have hoff : (off.setWidth 32).toNat < 2 ^ 13 := by rwa [BitVec.toNat_setWidth_of_le (by decide)]
  exact beq_iff_eq.2 (extractLsb'_page_add p.dmaPage _ hoff)

theorem inMux_muxBase_add (p : Platform) {off : Byte} (h : off.toNat < 0x80) :
    p.inMux (p.muxBase + off.setWidth 32) = true := by
  have hoff : (off.setWidth 32).toNat < 2 ^ 7 := by rwa [BitVec.toNat_setWidth_of_le (by decide)]
  exact beq_iff_eq.2 (extractLsb'_page_add p.muxPage _ hoff)

/-- The offset of an address from a base is the one that was added to it. -/
theorem setWidth_add_sub_base {k : Nat} (base : Addr) (off : BitVec k) (hk : k ≤ 32) :
    (base + off.setWidth 32 - base).setWidth k = off := by
  rw [BitVec.add_comm, BitVec.add_sub_cancel, BitVec.setWidth_setWidth_of_le _ hk, BitVec.setWidth_eq]

/-- A host access inside the engine's window is the operation on the engine's surface at its offset (R82). -/
theorem hostAccess_dmaBase (s : State) {off : Half} (w : Width) (d : Dir) (v : Word) (h : off.toNat < 0x2000) :
    hostAccess (s.platform.dmaBase + off.setWidth 32) w d v s = hostOperation .eng16 (engAccessBytes off w d v) s := by
  rw [hostAccess, if_pos (inEng_dmaBase_add s.platform h), setWidth_add_sub_base _ _ (by decide)]

/-- A host access inside the router's window is the operation on the router's surface at its offset (R82). -/
theorem hostAccess_muxBase (s : State) {off : Byte} (w : Width) (d : Dir) (v : Word) (h : off.toNat < 0x80)
    (heng : s.platform.inEng (s.platform.muxBase + off.setWidth 32) = false) :
    hostAccess (s.platform.muxBase + off.setWidth 32) w d v s = hostOperation .mux8 (muxAccessBytes off w d v) s := by
  rw [hostAccess, if_neg (by simp [heng]), if_pos (inMux_muxBase_add s.platform h),
    setWidth_add_sub_base _ _ (by decide)]

/-- A step runs the event put first on the agenda. -/
theorem step_agenda_cons (s : State) (e : Event) (rest : List Event) :
    step { s with agenda := e :: rest } = runEvent e { s with agenda := rest } := rfl

/-- Settles O5: the window of an address fixes its surface, and the base taken off leaves the offset. -/
theorem windowAccessesReachSurfaces : Obligations.WindowAccessesReachSurfaces := by
  intro s rest w d v
  refine ⟨fun off h => ?_, fun off h heng => ?_⟩ <;>
    rw [step_agenda_cons, step_agenda_cons]
  · exact hostAccess_dmaBase { s with agenda := rest } w d v h
  · exact hostAccess_muxBase { s with agenda := rest } w d v h heng

/-! ### The host's accesses to memory (R80, R95) -/

/-- Only outside the two windows does the bus answer other than `self` (R83). -/
theorem outside_windows_of_busResp {p : Platform} {a : Addr} {w : Width} {d : Dir} (h : busResp p a w d ≠ .self) :
    p.inEng a = false ∧ p.inMux a = false := by
  have hout : ¬ (p.inEng a || p.inMux a) = true := fun hin => h (if_pos hin)
  simpa using hout

/-- Where the bus does not answer `self`, a host access is an access to memory or a device. -/
theorem hostAccess_of_outside {s : State} {a : Addr} {w : Width} {d : Dir} {v : Word}
    (h : busResp s.platform a w d ≠ .self) : hostAccess a w d v s = hostMemory a w d v s := by
  obtain ⟨heng, hmux⟩ := outside_windows_of_busResp h
  simp [hostAccess, heng, hmux]

theorem hostAccess_write_memory {s : State} {a : Addr} {w : Width} {v : Word}
    (h : busResp s.platform a w .write = .memory) :
    hostAccess a w .write v s = .next ({ s with mem := s.mem.write a ((bytes32 v).take w.bytes) } : State).ack := by
  rw [hostAccess_of_outside (by simp [h])]
  simp [hostMemory, h]

theorem hostAccess_read_memory {s : State} {a : Addr} {w : Width} {v : Word}
    (h : busResp s.platform a w .read = .memory) :
    hostAccess a w .read v s = .next (s.returns (le32 (s.mem.read a w.bytes))) := by
  rw [hostAccess_of_outside (by simp [h])]
  simp [hostMemory, h]

theorem Width.bytes_le_four (w : Width) : w.bytes ≤ 4 := by cases w <;> decide

theorem length_take_bytes32 (v : Word) (w : Width) : ((bytes32 v).take w.bytes).length = w.bytes := by
  rw [List.length_take, length_bytes32, Nat.min_eq_left w.bytes_le_four]

/-- Settles O6: the access lies outside the windows, and a run of bytes reads as written (O26). -/
theorem hostReachesMemory : Obligations.HostReachesMemory := by
  intro s rest a w v
  refine ⟨fun hresp hwf => ?_, fun hresp => ?_⟩
  · have hlen := length_take_bytes32 v w
    have hle := w.bytes_le_four
    refine ⟨_, (step_agenda_cons s _ rest).trans
      (hostAccess_write_memory (s := { s with agenda := rest }) hresp), ?_, fun k hk => ?_, rfl⟩
    · have hread := read_write_same s.mem a ((bytes32 v).take w.bytes) hwf (by omega)
      rwa [hlen] at hread
    · exact readByte_write_of_outside s.mem a _ k hwf (by rwa [hlen])
  · rw [step_agenda_cons]
    refine (hostAccess_read_memory (s := { s with agenda := rest }) hresp).trans ?_
    simp [State.returns]

/-! ### One access on the bus (R83 to R89) -/

/-- A device answers a read with as many bytes as the access has, a free value (R83, R86). -/
theorem busRead_device {a : Addr} {w : Width} {s : State} (h : busResp s.platform a w .read = .device) :
    ∃ b, b.length = w.bytes ∧ busRead a w s = .done b (s.drawn.logBus ⟨.read, a, w, b, true⟩) := by
  refine ⟨_, length_take_bytes32 (Config.deviceData s.draws a) w, ?_⟩
  simp [busRead, h]

theorem busRead_refused {a : Addr} {w : Width} {s : State} (h : busResp s.platform a w .read = .error) :
    busRead a w s = .error (s.logBus ⟨.read, a, w, [], false⟩) := by
  simp [busRead, h]

theorem busRead_self {a : Addr} {w : Width} {s : State} (h : busResp s.platform a w .read = .self) :
    busRead a w s = .self := by
  simp [busRead, h]

/-- A device takes the bytes of a write, and memory stays (R87). -/
theorem busWrite_device {a : Addr} {w : Width} {s : State} {b : List Byte}
    (h : busResp s.platform a w .write = .device) :
    busWrite a w b s = .done b (s.logBus ⟨.write, a, w, b, true⟩) := by
  simp [busWrite, h]

theorem busWrite_refused {a : Addr} {w : Width} {s : State} {b : List Byte}
    (h : busResp s.platform a w .write = .error) : busWrite a w b s = .error (s.logBus ⟨.write, a, w, b, false⟩) := by
  simp [busWrite, h]

theorem busWrite_self {a : Addr} {w : Width} {s : State} {b : List Byte}
    (h : busResp s.platform a w .write = .self) : busWrite a w b s = .self := by
  simp [busWrite, h]

/-- An element is moved whole, or 4 bytes at a time when it is wider (R85). -/
theorem bytes_partWidth_two_pow (k : Nat) : (partWidth (2 ^ k)).bytes = min (2 ^ k) 4 := by
  match k with
  | 0 => rfl
  | 1 => rfl
  | k + 2 =>
    have hpos := Nat.two_pow_pos k
    have hwide : 2 ^ (k + 2) = 4 * 2 ^ k := by ring
    rw [partWidth, if_neg (by omega), if_neg (by omega), Width.bytes]
    omega

/-! ### One part of an access of the data mover (R85, R86, R87, R151, R152, R172) -/

/-- The bytes of the next descriptor already read. -/
def Part.image : Part → List Byte
  | .loading got => got
  | _ => []

/-- The place and the size of the bus access that the context `x` makes next on the slot `t`: the next bytes of the
destination element, of the next descriptor, or of the source element. -/
def nextAccess (t : Tcd) (x : Ctx) : Addr × Width :=
  if x.wr then (x.da + BitVec.ofNat 32 x.part.put, partWidth (dsize t))
  else if x.rem = 0 then (t.dlastSga + BitVec.ofNat 32 x.part.image.length, .four)
  else (x.sa + BitVec.ofNat 32 x.part.got.length, partWidth (ssize t))

/-- The context after a part `b` of a source element has been read (R151). -/
def partRead (t : Tcd) (x : Ctx) (b : List Byte) : Ctx :=
  if (x.part.got ++ b).length < ssize t then { x with part := .reading (x.part.got ++ b) }
  else elementRead x t (x.part.got ++ b)

/-- The context after a part of a destination element has been written (R152). -/
def partWritten (t : Tcd) (x : Ctx) : Ctx :=
  if x.part.put + (partWidth (dsize t)).bytes < dsize t then
    { x with part := .writing (x.part.put + (partWidth (dsize t)).bytes) }
  else elementWritten x t

/-- The bytes of the present part of a destination element: the queue's next ones (R152). -/
def partBytes (t : Tcd) (x : Ctx) : List Byte :=
  ((x.fifo.take (dsize t)).drop x.part.put).take (partWidth (dsize t)).bytes

/-! What a part of an access comes to, by what its one bus access comes to. -/

section
variable {x : Ctx} {s u : State}

theorem readElement_of_done {b : List Byte}
    (h : busRead (x.sa + BitVec.ofNat 32 x.part.got.length) (partWidth (ssize (s.slot x.ch))) s = .done b u) :
    readElement x s = .next { u with cur := some (partRead (s.slot x.ch) x b) } := by
  simp only [readElement, h, partRead]
  split <;> rfl

theorem readElement_of_error
    (h : busRead (x.sa + BitVec.ofNat 32 x.part.got.length) (partWidth (ssize (s.slot x.ch))) s = .error u) :
    readElement x s = .next (raiseChannelError x.ch [.sbe] u) := by
  simp only [readElement, h]

theorem readElement_of_self
    (h : busRead (x.sa + BitVec.ofNat 32 x.part.got.length) (partWidth (ssize (s.slot x.ch))) s = .self) :
    readElement x s = .refused (.selfAccess (x.sa + BitVec.ofNat 32 x.part.got.length)) := by
  simp only [readElement, h]

theorem writeElement_of_done {c : List Byte}
    (h : busWrite (x.da + BitVec.ofNat 32 x.part.put) (partWidth (dsize (s.slot x.ch))) (partBytes (s.slot x.ch) x) s =
      .done c u) :
    writeElement x s = .next { u with cur := some (partWritten (s.slot x.ch) x) } := by
  rw [partBytes] at h
  simp only [writeElement, h, partWritten]
  split <;> rfl

theorem writeElement_of_error
    (h : busWrite (x.da + BitVec.ofNat 32 x.part.put) (partWidth (dsize (s.slot x.ch))) (partBytes (s.slot x.ch) x) s =
      .error u) :
    writeElement x s = .next (raiseChannelError x.ch [.dbe] u) := by
  rw [partBytes] at h
  simp only [writeElement, h]

theorem writeElement_of_self
    (h : busWrite (x.da + BitVec.ofNat 32 x.part.put) (partWidth (dsize (s.slot x.ch))) (partBytes (s.slot x.ch) x) s =
      .self) :
    writeElement x s = .refused (.selfAccess (x.da + BitVec.ofNat 32 x.part.put)) := by
  rw [partBytes] at h
  simp only [writeElement, h]

variable {got : List Byte}

theorem loadWord_of_done {b : List Byte}
    (h : busRead ((s.slot x.ch).dlastSga + BitVec.ofNat 32 got.length) .four s = .done b u) :
    loadWord x got s = .next { u with cur := some { x with part := .loading (got ++ b) } } := by
  simp only [loadWord, h]

theorem loadWord_of_error
    (h : busRead ((s.slot x.ch).dlastSga + BitVec.ofNat 32 got.length) .four s = .error u) :
    loadWord x got s = .next { u with cur := some { x with part := .loadFailed } } := by
  simp only [loadWord, h]

theorem loadWord_of_self (h : busRead ((s.slot x.ch).dlastSga + BitVec.ofNat 32 got.length) .four s = .self) :
    loadWord x got s = .refused (.selfAccess ((s.slot x.ch).dlastSga + BitVec.ofNat 32 got.length)) := by
  simp only [loadWord, h]

end

/-! ### The step of the executing channel (R145) -/

theorem moverStep_of_writing {s : State} {x : Ctx} (hcur : s.cur = some x) (hwr : x.wr = true) :
    moverStep s = writeElement x s := by
  simp [moverStep, hcur, hwr]

/-- A reading channel with bytes left reads, unless it stands at a boundary and another channel preempts it. -/
theorem moverStep_of_reading {s : State} {x : Ctx} (hcur : s.cur = some x) (hwr : x.wr = false) (hrem : x.rem ≠ 0)
    (hstay : atBoundary x = false ∨ preemptors s x.ch = []) : moverStep s = readElement x s := by
  simp only [moverStep, hcur, hwr, hrem, if_false, Bool.false_eq_true]
  split
  · next hboundary =>
    have hnone : preemptors s x.ch = [] := by simpa [hboundary] using hstay
    rw [boundaryStep, choose_none.2 hnone]
  · rfl

/-- At the end of the last minor loop with a link, the next word of the descriptor is read while one is left. -/
theorem moverStep_of_loading {s : State} {x : Ctx} {got : List Byte} (hcur : s.cur = some x) (hwr : x.wr = false)
    (hrem : x.rem = 0) (hlast : newCount (s.slot x.ch) = 0) (hesg : csrEsg (s.slot x.ch) = true)
    (hpart : x.part = .idle ∧ got = [] ∨ x.part = .loading got) (hgot : got.length < 32) :
    moverStep s = loadWord x got s := by
  have hlinked : moverStep s = majorLinked x s := by simp [moverStep, hcur, hwr, hrem, completion, hlast, hesg]
  rw [hlinked]
  rcases hpart with ⟨hidle, rfl⟩ | hloading
  · simp [majorLinked, hidle]
  · simp [majorLinked, hloading, hgot]

/-- The context after a part of a source element, with the fields of R151 written out. -/
theorem partRead_eq (t : Tcd) (x : Ctx) (b : List Byte) :
    partRead t x b =
      if (x.part.got ++ b).length < ssize t then { x with part := .reading (x.part.got ++ b) }
      else { x with
        fifo := x.fifo ++ (x.part.got ++ b)
        sa := nextAddr x.sa (t.soff.signExtend 32) (smod t)
        wr := decide (x.fifo.length + (x.part.got ++ b).length = max (ssize t) (dsize t))
        part := .idle } := by
  rw [partRead, elementRead, List.length_append (as := x.fifo)]
  rfl

/-- Settles O36: the step is `readElement`, whose one read has four answers. -/
theorem sourceElementRead : Obligations.SourceElementRead := by
  intro s x hnext hcur hwr hrem _ hstay
  simp only [step_of_moverNext hnext, moverStep_of_reading hcur hwr hrem hstay, ← partRead_eq]
  refine ⟨bytes_partWidth_two_pow _, fun h => ?_, fun h => ?_, fun h => ?_, fun h => ?_⟩
  · exact readElement_of_done (busRead_memory h)
  · obtain ⟨b, hlen, hread⟩ := busRead_device h
    exact ⟨b, hlen, readElement_of_done hread⟩
  · exact readElement_of_error (busRead_refused h)
  · exact readElement_of_self (busRead_self h)

/-- The context after a part of a destination element, with the fields of R152 written out. -/
theorem partWritten_eq (t : Tcd) {x : Ctx} (hwr : x.wr = true) :
    partWritten t x =
      if x.part.put + (partWidth (dsize t)).bytes < dsize t then
        { x with part := .writing (x.part.put + (partWidth (dsize t)).bytes) }
      else if (x.fifo.drop (dsize t)).isEmpty then { x with
        fifo := []
        da := nextAddr x.da (t.doff.signExtend 32) (dmod t)
        wr := false
        rem := x.rem - BitVec.ofNat 32 (max (ssize t) (dsize t))
        part := .idle }
      else { x with
        fifo := x.fifo.drop (dsize t)
        da := nextAddr x.da (t.doff.signExtend 32) (dmod t)
        part := .idle } := by
  unfold partWritten elementWritten
  split
  · rfl
  · split
    · next hempty => simp [List.isEmpty_iff.1 hempty, doff, seqBytes]
    · next hmore => simp [hmore, hwr, doff]

theorem length_partBytes_le (t : Tcd) (x : Ctx) : (partBytes t x).length ≤ 4 :=
  Nat.le_trans (List.length_take_le _ _) (Width.bytes_le_four _)

/-- Settles O37: the step is `writeElement`, whose one write has four answers; memory is that of O26. -/
theorem destinationElementWritten : Obligations.DestinationElementWritten := by
  intro s x hnext hcur hwr _ hwf
  simp only [step_of_moverNext hnext, moverStep_of_writing hcur hwr, ← partWritten_eq _ hwr]
  refine ⟨bytes_partWidth_two_pow _, fun h => ?_, fun h => ?_, fun h => ?_, fun h => ?_⟩
  · have hlen := length_partBytes_le (s.slot x.ch) x
    exact ⟨_, writeElement_of_done (busWrite_memory h),
      ⟨read_write_same s.mem _ (partBytes (s.slot x.ch) x) hwf (by omega),
        fun k => readByte_write_of_outside s.mem _ (partBytes (s.slot x.ch) x) k hwf⟩, rfl⟩
  · exact writeElement_of_done (busWrite_device h)
  · exact writeElement_of_error (busWrite_refused h)
  · exact writeElement_of_self (busWrite_self h)

/-- Settles O41: the step is `loadWord`, whose one read of 4 bytes has four answers. -/
theorem nextDescriptorIsReadWordByWord : Obligations.NextDescriptorIsReadWordByWord := by
  intro s x got hnext hcur hwr hrem o hlast hesg hpart hgot
  simp only [step_of_moverNext hnext, moverStep_of_loading hcur hwr hrem hlast hesg hpart hgot]
  refine ⟨fun h => ?_, fun h => ?_, fun h => ?_, fun h => ?_⟩
  · exact loadWord_of_done (busRead_memory h)
  · obtain ⟨b, hlen, hread⟩ := busRead_device h
    exact ⟨b, hlen, loadWord_of_done hread⟩
  · exact loadWord_of_error (busRead_refused h)
  · exact loadWord_of_self (busRead_self h)

/-! ### What a step of the data mover does to contexts, memory and the trace (R145)

`MoverEffect` says which parts of the state a step of the data mover can touch; `MoverTransition` says what it puts
there: the access made, and the context after it. -/

/-- The context `x` on the slot `t` after its next bus access, when that was done or its refusal is kept (R172). -/
inductive Advanced (t : Tcd) (x : Ctx) : Ctx → Prop where
  | read {b : List Byte} (hwr : x.wr = false) (hrem : x.rem ≠ 0) (hlen : b.length = (partWidth (ssize t)).bytes) :
      Advanced t x (partRead t x b)
  | written (hwr : x.wr = true) : Advanced t x (partWritten t x)
  | loaded {b : List Byte} (hwr : x.wr = false) (hrem : x.rem = 0) (hlast : newCount t = 0) (hesg : csrEsg t = true)
      (hleft : x.part.image.length < 32) (hlen : b.length = 4) :
      Advanced t x { x with part := .loading (x.part.image ++ b) }
  | loadRefused (hwr : x.wr = false) (hrem : x.rem = 0) (hlast : newCount t = 0) (hesg : csrEsg t = true) :
      Advanced t x { x with part := .loadFailed }

theorem Advanced.ch {t : Tcd} {x y : Ctx} (h : Advanced t x y) : y.ch = x.ch := by
  cases h with
  | read => unfold partRead; split <;> rfl
  | written => unfold partWritten; split <;> rfl
  | loaded | loadRefused => rfl

/-- The event `e` is the bus access that `x` makes next on the slot `t`; a next descriptor is read with `ESG = 1` only
(R172). -/
def isNextAccess (t : Tcd) (x : Ctx) (e : BusEvent) : Prop :=
  (e.addr, e.width) = nextAccess t x ∧ (x.wr = false → x.rem = 0 → csrEsg t = true)

theorem isNextAccess_writing {t : Tcd} {x : Ctx} {e : BusEvent} (hwr : x.wr = true)
    (he : (e.addr, e.width) = (x.da + BitVec.ofNat 32 x.part.put, partWidth (dsize t))) : isNextAccess t x e :=
  ⟨he.trans (if_pos hwr).symm, fun h => by simp [hwr] at h⟩

theorem isNextAccess_loading {t : Tcd} {x : Ctx} {e : BusEvent} (hwr : x.wr = false) (hrem : x.rem = 0)
    (hesg : csrEsg t = true) (he : (e.addr, e.width) = (t.dlastSga + BitVec.ofNat 32 x.part.image.length, .four)) :
    isNextAccess t x e :=
  ⟨by rw [he, nextAccess, if_neg (by simp [hwr]), if_pos hrem], fun _ _ => hesg⟩

theorem isNextAccess_reading {t : Tcd} {x : Ctx} {e : BusEvent} (hwr : x.wr = false) (hrem : x.rem ≠ 0)
    (he : (e.addr, e.width) = (x.sa + BitVec.ofNat 32 x.part.got.length, partWidth (ssize t))) : isNextAccess t x e :=
  ⟨by rw [he, nextAccess, if_neg (by simp [hwr]), if_neg hrem], fun _ h => absurd h hrem⟩

/-- A memory after at most one store of a byte string. -/
def storedOnce (m m' : Memory) : Prop := m' = m ∨ ∃ a b, m' = m.write a b

/-- The steps of the data mover, with the access that each makes. -/
inductive MoverTransition (s : State) : State → Prop where
  | idle : MoverTransition s s
  | resumed (y : Ctx) (hsusp : s.susp = some y) : MoverTransition s { s with cur := some y, susp := none }
  | arbitrated (c : Chan) (d : Nat) (hcur : s.cur = none) : MoverTransition s (activate c { s with draws := d })
  | preempted (x : Ctx) (k : Chan) (d : Nat) (hcur : s.cur = some x) (hrem : x.rem ≠ 0)
      (hboundary : atBoundary x = true) :
      MoverTransition s (activate k { s with draws := d, susp := some x, cur := none })
  | accessed (x y : Ctx) (e : BusEvent) (m : Memory) (d : Nat) (hcur : s.cur = some x)
      (hplace : isNextAccess (s.slot x.ch) x e) (hmem : storedOnce s.mem m) (hadv : Advanced (s.slot x.ch) x y) :
      MoverTransition s { s with cur := some y, mem := m, draws := d, trace := e :: s.trace }
  | refused (x : Ctx) (e : BusEvent) (kind : ErrKind) (hcur : s.cur = some x)
      (hplace : isNextAccess (s.slot x.ch) x e) : MoverTransition s (raiseChannelError x.ch [kind] (s.logBus e))
  | completed (x : Ctx) {t : State} (hcur : s.cur = some x) (hend : Completed x s t) : MoverTransition s t

theorem readElement_transition {x : Ctx} {s t : State} (hcur : s.cur = some x) (hwr : x.wr = false) (hrem : x.rem ≠ 0)
    (h : readElement x s = .next t) : MoverTransition s t := by
  cases hbus : busRead (x.sa + BitVec.ofNat 32 x.part.got.length) (partWidth (ssize (s.slot x.ch))) s with
  | self => rw [readElement_of_self hbus] at h; cases h
  | error u =>
    rw [readElement_of_error hbus, busRead_error hbus] at h
    cases h
    exact .refused x _ _ hcur (isNextAccess_reading hwr hrem rfl)
  | done b u =>
    rw [readElement_of_done hbus] at h
    obtain ⟨hlen, d, rfl⟩ := busRead_done hbus
    cases h
    exact .accessed x _ _ s.mem d hcur (isNextAccess_reading hwr hrem rfl) (.inl rfl) (.read hwr hrem hlen)

theorem writeElement_transition {x : Ctx} {s t : State} (hcur : s.cur = some x) (hwr : x.wr = true)
    (h : writeElement x s = .next t) : MoverTransition s t := by
  cases hbus : busWrite (x.da + BitVec.ofNat 32 x.part.put) (partWidth (dsize (s.slot x.ch)))
      (partBytes (s.slot x.ch) x) s with
  | self => rw [writeElement_of_self hbus] at h; cases h
  | error u =>
    rw [writeElement_of_error hbus, busWrite_error hbus] at h
    cases h
    exact .refused x _ _ hcur (isNextAccess_writing hwr rfl)
  | done c u =>
    rw [writeElement_of_done hbus] at h
    obtain ⟨m, hm, rfl⟩ := busWrite_done hbus
    cases h
    exact .accessed x _ _ m s.draws hcur (isNextAccess_writing hwr rfl)
      (hm.symm.imp_right fun hwrite => ⟨_, _, hwrite⟩) (.written hwr)

theorem loadWord_transition {x : Ctx} {s t : State} (hcur : s.cur = some x) (hwr : x.wr = false) (hrem : x.rem = 0)
    (hlast : newCount (s.slot x.ch) = 0) (hesg : csrEsg (s.slot x.ch) = true) (hleft : x.part.image.length < 32)
    (h : loadWord x x.part.image s = .next t) : MoverTransition s t := by
  cases hbus : busRead ((s.slot x.ch).dlastSga + BitVec.ofNat 32 x.part.image.length) .four s with
  | self => rw [loadWord_of_self hbus] at h; cases h
  | error u =>
    rw [loadWord_of_error hbus, busRead_error hbus] at h
    cases h
    exact .accessed x _ _ s.mem s.draws hcur (isNextAccess_loading hwr hrem hesg rfl) (.inl rfl)
      (.loadRefused hwr hrem hlast hesg)
  | done b u =>
    rw [loadWord_of_done hbus] at h
    obtain ⟨hlen, d, rfl⟩ := busRead_done hbus
    cases h
    exact .accessed x _ _ s.mem d hcur (isNextAccess_loading hwr hrem hesg rfl) (.inl rfl)
      (.loaded hwr hrem hlast hesg hleft hlen)

theorem completion_transition {x : Ctx} {s t : State} (hcur : s.cur = some x) (hwr : x.wr = false) (hrem : x.rem = 0)
    (h : completion x s = .next t) : MoverTransition s t := by
  rcases completion_next h with ⟨-, rfl⟩ | ⟨-, -, rfl⟩ | ⟨-, -, -, rfl⟩ | ⟨-, -, got, -, -, rfl⟩ |
    ⟨hlast, hesg, got, hload, hgot⟩
  · exact .completed x hcur (.minor _)
  · exact .completed x hcur .major
  · exact .completed x hcur .majorFailed
  · exact .completed x hcur (.majorLoaded got)
  · have himage : x.part.image = got ∧ got.length < 32 := by
      rcases hgot with ⟨hpart, hlt⟩ | ⟨rfl, -, hother⟩
      · exact ⟨by rw [hpart, Part.image], hlt⟩
      · refine ⟨?_, by decide⟩
        cases hpart : x.part with
        | loading g => exact absurd hpart (hother g)
        | idle | reading | writing | loadFailed => rfl
    obtain ⟨rfl, hleft⟩ := himage
    exact loadWord_transition hcur hwr hrem hlast hesg hleft hload

/-- A choice among channels changes at most the number of draws. -/
theorem eq_draws_of_choose {s s' : State} {l : List Chan} {n : Chan} (h : choose s l = some (n, s')) :
    ∃ d, s' = { s with draws := d } := by
  obtain ⟨-, -, rfl | rfl⟩ := choose_some h
  · exact ⟨s'.draws, rfl⟩
  · exact ⟨s.draws + 1, rfl⟩

theorem arbitrate_transition {s : State} (hcur : s.cur = none) : MoverTransition s (arbitrate s) := by
  unfold arbitrate
  split
  · next c s' hchoose =>
    obtain ⟨d, rfl⟩ := eq_draws_of_choose hchoose
    exact .arbitrated c d hcur
  · exact .idle

theorem moverStep_transition {s t : State} (h : moverStep s = .next t) : MoverTransition s t := by
  rcases moverStep_next h with ⟨y, -, hsusp, rfl⟩ | ⟨hcur, -, rfl⟩ | ⟨x, hcur, hwr, hwrite⟩ |
    ⟨x, hcur, hwr, hrem, hcomp⟩ | ⟨x, k, s', hcur, -, hrem, hboundary, hchoose, rfl⟩ | ⟨x, hcur, hwr, hrem, hread⟩
  · exact .resumed y hsusp
  · exact arbitrate_transition hcur
  · exact writeElement_transition hcur hwr hwrite
  · exact completion_transition hcur hwr hrem hcomp
  · obtain ⟨d, rfl⟩ := eq_draws_of_choose hchoose
    exact .preempted x k d hcur hrem hboundary
  · exact readElement_transition hcur hwr hrem hread

/-! ### What a step of another agent does to contexts, memory and the trace -/

/-- A step in which the data mover does not act: the host or the environment stores at most one byte string, makes no
access of the data mover, and touches the contexts' channels as a host operation does, unless the block is reset. -/
structure OtherAgentEffect (s t : State) : Prop where
  mem : storedOnce s.mem t.mem
  trace : t.trace = s.trace
  contexts : (t.cur = none ∧ t.susp = none) ∨
    (t.cur = s.cur ∧ t.susp = s.susp ∧ ∀ n, HostSlotEffect (s.slot n) (t.slot n))

/-- A step that touches no slot and no context. -/
theorem OtherAgentEffect.of_slots_eq {s t : State} (hmem : storedOnce s.mem t.mem) (htrace : t.trace = s.trace)
    (htcd : t.tcd = s.tcd) (hcur : t.cur = s.cur) (hsusp : t.susp = s.susp) : OtherAgentEffect s t where
  mem := hmem
  trace := htrace
  contexts := .inr ⟨hcur, hsusp, fun n => by rw [slot_congr htcd]; exact .same⟩

/-- A step that touches nothing of the block's slots, contexts, memory and accesses. -/
theorem OtherAgentEffect.of_frame {s t : State} (hmem : t.mem = s.mem) (htrace : t.trace = s.trace)
    (htcd : t.tcd = s.tcd) (hcur : t.cur = s.cur) (hsusp : t.susp = s.susp) : OtherAgentEffect s t :=
  .of_slots_eq (.inl hmem) htrace htcd hcur hsusp

theorem slotAccess_trace {w : Nat} {get : Tcd → BitVec w} {put : Tcd → BitVec w → Tcd} {n : Chan} {a : Access w}
    {s t : State} (h : slotAccess get put n a s = .next t) : t.trace = s.trace := by
  rcases slotAccess_next h with ⟨-, rfl⟩ | ⟨v, -, -, rfl⟩ <;> rfl

/-- No operation of the host is an access of the data mover. -/
theorem exec_trace {i : Instr} {s t : State} (h : exec i s = .next t) : t.trace = s.trace := by
  cases i
  case cr a | es a | erq a | eei a | int a | err a | hrs a | dchpri n a => cases a <;> cases h <;> rfl
  case chcfg n a =>
    cases a with
    | read => cases h; rfl
    | write v => cases h; rw [State.ack_trace, writeChcfg_eq]
  case tcd n d =>
    simp only [exec, execTcd] at h
    split at h <;> cases h
    rfl
  case tcdSaddr | tcdSoff | tcdAttr | tcdNbytes | tcdSlast | tcdDaddr | tcdDoff | tcdCiter | tcdDlastSga | tcdCsr |
      tcdBiter => exact slotAccess_trace h
  case attr | nbytesPlain | nbytesOff | iterPlain | iterLink | csr | dlast | sga =>
    simp only [exec, execAttr, execNbytesPlain, execNbytesOff, execIterPlain, execIterLink, execCsr, execDlast,
      execSga] at h
    exact slotAccess_trace h
  all_goals cases h; rfl

theorem exec_otherAgent {i : Instr} {s t : State} (h : exec i s = .next t) : OtherAgentEffect s t :=
  have heffect := exec_hostEffect h
  { mem := .inl heffect.mem
    trace := exec_trace h
    contexts := .inr ⟨heffect.cur, heffect.susp, heffect.slot⟩ }

theorem hostOperation_otherAgent {f : Format} {bytes : List Byte} {s t : State}
    (h : hostOperation f bytes s = .next t) : OtherAgentEffect s t := by
  obtain ⟨-, ⟨i, -, hexec⟩ | rfl | rfl | rfl⟩ := hostOperation_next h
  · exact exec_otherAgent hexec
  · exact .of_frame rfl rfl rfl rfl rfl
  · exact .of_frame rfl rfl rfl rfl rfl
  · exact .of_frame rfl rfl rfl rfl rfl

theorem hostMemory_otherAgent {a : Addr} {w : Width} {d : Dir} {v : Word} {s t : State}
    (h : hostMemory a w d v s = .next t) : OtherAgentEffect s t := by
  unfold hostMemory at h
  split at h <;> cases h
  · exact .of_frame rfl rfl rfl rfl rfl
  · exact .of_slots_eq (.inr ⟨a, _, rfl⟩) rfl rfl rfl rfl
  · exact .of_frame rfl rfl rfl rfl rfl
  · exact .of_frame rfl rfl rfl rfl rfl
  · exact .of_frame rfl rfl rfl rfl rfl

theorem hostAccess_otherAgent {a : Addr} {w : Width} {d : Dir} {v : Word} {s t : State}
    (h : hostAccess a w d v s = .next t) : OtherAgentEffect s t := by
  unfold hostAccess at h
  split at h
  · exact hostOperation_otherAgent h
  · split at h
    · exact hostOperation_otherAgent h
    · exact hostMemory_otherAgent h

theorem applyReset_otherAgent (level : Bool) (s : State) : OtherAgentEffect s (applyReset level s) := by
  cases level with
  | false => exact .of_frame rfl rfl rfl rfl rfl
  | true => exact ⟨.inl rfl, rfl, .inl ⟨rfl, rfl⟩⟩

/-- The data mover's turn is a step of it, or nothing while the block is held in reset (R320). -/
theorem moverTurn_cases {s t : State} (h : moverTurn s = .next t) : MoverTransition s t := by
  unfold moverTurn at h
  split at h
  · cases h; exact .idle
  · exact moverStep_transition h

theorem runEvent_cases {e : Event} {s t : State} (h : runEvent e s = .next t) :
    OtherAgentEffect s t ∨ MoverTransition s t := by
  cases e with
  | host f bytes => exact .inl (hostOperation_otherAgent h)
  | bus a w d v => exact .inl (hostAccess_otherAgent h)
  | mover => exact .inr (moverTurn_cases h)
  | line slot level => cases h; exact .inl (.of_frame rfl rfl rfl rfl rfl)
  | pulse n => cases h; rw [applyPulse_eq]; exact .inl (.of_frame rfl rfl rfl rfl rfl)
  | reset level => cases h; exact .inl (applyReset_otherAgent level s)

/-- A step is another agent's, or the data mover's; what is left of the agenda matters to neither. -/
theorem step_cases {s t : State} (h : step s = .next t) :
    ∃ rest, OtherAgentEffect { s with agenda := rest } t ∨ MoverTransition { s with agenda := rest } t := by
  rcases step_next h with ⟨-, hturn⟩ | ⟨e, rest, -, hevent⟩
  · exact ⟨s.agenda, .inr (moverTurn_cases hturn)⟩
  · exact ⟨rest, runEvent_cases hevent⟩

/-! ### Memory stays canonical (R80, R95) -/

theorem storedOnce.wf {m m' : Memory} (h : storedOnce m m') (hm : m.wf = true) : m'.wf = true := by
  rcases h with rfl | ⟨a, b, rfl⟩
  · exact hm
  · exact wf_write m a b hm

@[simp] theorem markActive_mem (c : Chan) (s : State) : (markActive c s).mem = s.mem := by rw [markActive_eq]

@[simp] theorem activate_mem (c : Chan) (s : State) : (activate c s).mem = s.mem := by
  rcases activate_cases c s with ⟨-, h⟩ | ⟨-, h⟩ <;> simp [h]

@[simp] theorem retire_mem (c : Chan) (s : State) : (retire c s).mem = s.mem := by
  unfold retire cancelCheck
  split
  · rfl
  · split <;> rfl

theorem Completed.mem {x : Ctx} {s t : State} (h : Completed x s t) : t.mem = s.mem := by
  have hcommit : (majorCommit x s).mem = s.mem := by rw [majorCommit_eq]
  cases h with
  | minor newc => rw [retire_mem, minorDone_eq]
  | major => exact (retire_mem _ _).trans hcommit
  | majorLoaded image => exact (retire_mem _ _).trans hcommit
  | majorFailed => exact hcommit

theorem MoverTransition.mem {s t : State} (h : MoverTransition s t) : storedOnce s.mem t.mem := by
  cases h with
  | idle | resumed | refused => exact .inl rfl
  | arbitrated | preempted => exact .inl (activate_mem _ _)
  | accessed _ _ _ m _ _ _ hmem _ => exact hmem
  | completed x _ hend => exact .inl hend.mem

/-- Settles O54: a step of any agent stores at most one byte string, and a store keeps the canonical form. -/
theorem memoryStaysCanonical : Obligations.MemoryStaysCanonical := by
  intro s t hwf hstep
  obtain ⟨rest, hother | hmover⟩ := step_cases hstep
  · exact hother.mem.wf hwf
  · exact hmover.mem.wf hwf

/-! ### Multiples of a power of two (R84, R117, R118, R180) -/

theorem multipleOf_iff_dvd {w : Nat} (v : BitVec w) (k : Nat) : multipleOf v k = true ↔ 2 ^ k ∣ v.toNat := by
  rw [multipleOf, decide_eq_true_eq, Nat.dvd_iff_mod_eq_zero]

theorem multipleOf_iff_bits {w : Nat} (v : BitVec w) (k : Nat) :
    multipleOf v k = true ↔ ∀ i < k, v.getLsbD i = false := by
  have hbit (i : Nat) : (v.toNat % 2 ^ k).testBit i = (decide (i < k) && v.getLsbD i) := Nat.testBit_mod_two_pow ..
  rw [multipleOf, decide_eq_true_eq]
  constructor
  · intro h i hi
    have hzero := hbit i
    rw [h, Nat.zero_testBit] at hzero
    simpa [hi] using hzero.symm
  · intro h
    refine Nat.eq_of_testBit_eq fun i => ?_
    rw [hbit, Nat.zero_testBit]
    by_cases hi : i < k
    · rw [h i hi, Bool.and_false]
    · simp [hi]

/-- An address a multiple of `d` further is a multiple of `d` again, across the end of the address space too. -/
theorem dvd_toNat_add {d : Nat} {a b : Addr} (hd : d ∣ 2 ^ 32) (ha : d ∣ a.toNat) (hb : d ∣ b.toNat) :
    d ∣ (a + b).toNat := by
  rw [BitVec.toNat_add, Nat.dvd_mod_iff hd]
  exact Nat.dvd_add ha hb

theorem dvd_toNat_add_ofNat {d n : Nat} {a : Addr} (hd : d ∣ 2 ^ 32) (ha : d ∣ a.toNat) (hn : d ∣ n) :
    d ∣ (a + BitVec.ofNat 32 n).toNat :=
  dvd_toNat_add hd ha (by rwa [BitVec.toNat_ofNat, Nat.dvd_mod_iff hd])

/-- Widening an offset with its sign keeps its low bits (R117). -/
theorem multipleOf_signExtend {v : Half} {k : Nat} (hk : k ≤ 16) (h : multipleOf v k = true) :
    multipleOf (v.signExtend 32) k = true := by
  rw [multipleOf_iff_bits] at h ⊢
  intro i hi
  rw [BitVec.getLsbD_signExtend, if_pos (by omega), h i hi, Bool.and_false]

/-- The next address in a modulo window is a multiple again: its low bits are those of the address or of the sum
(R118). -/
theorem multipleOf_nextAddr {a : Addr} {o : Word} {k : Nat} (m : Nat) (hk : k ≤ 32) (ha : multipleOf a k = true)
    (ho : multipleOf o k = true) : multipleOf (nextAddr a o m) k = true := by
  have hsum : multipleOf (a + o) k = true := by
    rw [multipleOf_iff_dvd] at ha ho ⊢
    exact dvd_toNat_add (Nat.pow_dvd_pow 2 hk) ha ho
  unfold nextAddr
  split
  · exact hsum
  · rw [multipleOf_iff_bits] at ha hsum ⊢
    intro i hi
    simp [ha i hi, hsum i hi]

/-! ### Sizes, sequences and parts (R85, R116, R150) -/

theorem ssize_pos (t : Tcd) : 0 < ssize t := Nat.two_pow_pos _
theorem dsize_pos (t : Tcd) : 0 < dsize t := Nat.two_pow_pos _

/-- Of two powers of two the smaller divides the greater. -/
theorem two_pow_dvd_max (a b : Nat) : 2 ^ a ∣ max (2 ^ a) (2 ^ b) := by
  rcases max_choice (2 ^ a) (2 ^ b) with h | h <;> rw [h]
  exact Nat.pow_dvd_pow 2 ((Nat.pow_le_pow_iff_right (by decide)).1 (max_eq_right_iff.1 h))

/-- A sequence is a whole number of elements of either side. -/
theorem ssize_dvd_seqBytes (t : Tcd) : ssize t ∣ seqBytes t := two_pow_dvd_max ..

theorem dsize_dvd_seqBytes (t : Tcd) : dsize t ∣ seqBytes t := by
  rw [seqBytes, max_comm]
  exact two_pow_dvd_max ..

theorem seqBytes_pos (t : Tcd) : 0 < seqBytes t := Nat.lt_of_lt_of_le (ssize_pos t) (Nat.le_max_left ..)

/-- A sequence is as long as the wider element. -/
theorem seqBytes_eq (t : Tcd) : seqBytes t = ssize t ∨ seqBytes t = dsize t := max_choice ..

/-- Between two multiples of `d` lies at least `d`. -/
theorem add_le_of_dvd_of_lt {d a b : Nat} (ha : a % d = 0) (hb : d ∣ b) (h : a < b) : a + d ≤ b :=
  Nat.ModEq.add_le_of_lt (ha.trans (Nat.mod_eq_zero_of_dvd hb).symm) h

theorem bytes_partWidth_dvd_size (k : Nat) : (partWidth (2 ^ k)).bytes ∣ 2 ^ k := by
  match k with
  | 0 | 1 => decide
  | k + 2 =>
    have hpos := Nat.two_pow_pos k
    have hwide : 2 ^ (k + 2) = 4 * 2 ^ k := by ring
    rw [bytes_partWidth_two_pow, hwide, Nat.min_eq_right (by omega)]
    exact Nat.dvd_mul_right 4 _

theorem Width.bytes_dvd_four (w : Width) : w.bytes ∣ 4 := by cases w <;> decide

/-- An element that a part does not complete is wide, and its parts are of 4 bytes. -/
theorem bytes_partWidth_of_lt {k p : Nat} (h : p + (partWidth (2 ^ k)).bytes < 2 ^ k) :
    (partWidth (2 ^ k)).bytes = 4 := by
  rw [bytes_partWidth_two_pow] at h ⊢
  omega

/-- The last part completes its element exactly. -/
theorem add_bytes_partWidth_of_not_lt {k p : Nat} (hp : p % 4 = 0) (hlt : p < 2 ^ k)
    (h : ¬ p + (partWidth (2 ^ k)).bytes < 2 ^ k) : p + (partWidth (2 ^ k)).bytes = 2 ^ k := by
  rw [bytes_partWidth_two_pow] at h ⊢
  match k with
  | 0 | 1 => omega
  | k + 2 =>
    have hwide : 2 ^ (k + 2) = 4 * 2 ^ k := by ring
    omega

/-! ### A context that fits its slot (R84, R141, R150, R153) -/

/-- The parts of `ctxOk` by name. -/
structure ContextFits (t : Tcd) (x : Ctx) : Prop where
  ssizeLegal : ssizeCode t ≤ 5
  dsizeLegal : dsizeCode t ≤ 5
  soff : multipleOf t.soff (ssizeCode t) = true
  doff : multipleOf t.doff (dsizeCode t) = true
  sa : multipleOf x.sa (ssizeCode t) = true
  da : multipleOf x.da (dsizeCode t) = true
  rem : x.rem.toNat % seqBytes t = 0
  count : count t.citer ≠ 0
  link : csrEsg t = true → multipleOf t.dlastSga 5 = true
  fifo : fifoOk t x = true
  part : partOk t x = true

theorem ctxOk_iff {t : Tcd} {x : Ctx} : ctxOk t x = true ↔ ContextFits t x := by
  simp only [ctxOk, Bool.and_eq_true, decide_eq_true_eq, bne_iff_ne, Bool.or_eq_true, Bool.not_eq_true',
    ← Bool.not_eq_true, ← imp_iff_not_or]
  constructor
  · rintro ⟨⟨⟨⟨⟨⟨⟨⟨⟨⟨hss, hds⟩, hso⟩, hdo⟩, hsa⟩, hda⟩, hrem⟩, hcount⟩, hlink⟩, hfifo⟩, hpart⟩
    exact ⟨hss, hds, hso, hdo, hsa, hda, hrem, hcount, hlink, hfifo, hpart⟩
  · rintro ⟨hss, hds, hso, hdo, hsa, hda, hrem, hcount, hlink, hfifo, hpart⟩
    exact ⟨⟨⟨⟨⟨⟨⟨⟨⟨⟨hss, hds⟩, hso⟩, hdo⟩, hsa⟩, hda⟩, hrem⟩, hcount⟩, hlink⟩, hfifo⟩, hpart⟩

theorem fifoOk_reading {t : Tcd} {x : Ctx} (hwr : x.wr = false) :
    fifoOk t x = true ↔
      x.fifo.length < seqBytes t ∧ x.fifo.length % ssize t = 0 ∧ (x.rem = 0 → x.fifo = []) := by
  simp [fifoOk, hwr, and_assoc, or_iff_not_imp_left]

theorem fifoOk_writing {t : Tcd} {x : Ctx} (hwr : x.wr = true) :
    fifoOk t x = true ↔
      0 < x.fifo.length ∧ x.fifo.length ≤ seqBytes t ∧ x.fifo.length % dsize t = 0 ∧ x.rem ≠ 0 := by
  simp [fifoOk, hwr, and_assoc]

namespace ContextFits

variable {t : Tcd} {x : Ctx}

/-- The bytes read of a source element are fewer than the element, in parts of 4. -/
theorem got (h : ContextFits t x) : x.part.got.length % 4 = 0 ∧ x.part.got.length < ssize t := by
  have hpart := h.part
  unfold partOk at hpart
  cases hp : x.part with
  | reading g =>
    simp only [hp, Bool.and_eq_true, decide_eq_true_eq] at hpart
    obtain ⟨-, -, hlt, hmod⟩ := hpart
    exact ⟨hmod, hlt⟩
  | idle | writing | loading | loadFailed => exact ⟨rfl, ssize_pos t⟩

/-- The bytes written of a destination element are fewer than the element, in parts of 4. -/
theorem put (h : ContextFits t x) : x.part.put % 4 = 0 ∧ x.part.put < dsize t := by
  have hpart := h.part
  unfold partOk at hpart
  cases hp : x.part with
  | writing done =>
    simp only [hp, Bool.and_eq_true, decide_eq_true_eq] at hpart
    obtain ⟨-, -, hlt, hmod⟩ := hpart
    exact ⟨hmod, hlt⟩
  | idle | reading | loading | loadFailed => exact ⟨rfl, dsize_pos t⟩

/-- The next descriptor is read in words of 4 bytes. -/
theorem image (h : ContextFits t x) : x.part.image.length % 4 = 0 := by
  have hpart := h.part
  unfold partOk at hpart
  cases hp : x.part with
  | loading g =>
    simp only [hp, Bool.and_eq_true, decide_eq_true_eq] at hpart
    obtain ⟨-, -, hmod⟩ := hpart
    exact hmod
  | idle | reading | writing | loadFailed => rfl

/-- The fields of a context that an unfinished part of an access does not touch fit as before. -/
theorem withPart (h : ContextFits t x) {p : Part} (hpart : partOk t { x with part := p } = true) :
    ContextFits t { x with part := p } :=
  { h with part := hpart }

/-- A part of a source element that leaves the element unfinished. -/
theorem partiallyRead (h : ContextFits t x) (hwr : x.wr = false) (hrem : x.rem ≠ 0) {b : List Byte}
    (hlen : b.length = (partWidth (ssize t)).bytes) (hlt : (x.part.got ++ b).length < ssize t) :
    ContextFits t { x with part := .reading (x.part.got ++ b) } := by
  obtain ⟨hgot, -⟩ := h.got
  rw [List.length_append, hlen] at hlt
  have hwide : (partWidth (ssize t)).bytes = 4 := bytes_partWidth_of_lt hlt
  have hpart : partOk t { x with part := .reading (x.part.got ++ b) } = true := by
    simp only [partOk, hwr, List.length_append, hlen, hwide, Bool.and_eq_true, decide_eq_true_eq]
    exact ⟨⟨rfl, by simpa using hrem⟩, by omega, by omega, by omega⟩
  exact h.withPart hpart

/-- A whole source element joins the queue: the queue holds whole elements, or one whole sequence to write (R151). -/
theorem elementRead (h : ContextFits t x) (hwr : x.wr = false) (hrem : x.rem ≠ 0) {g : List Byte}
    (hlen : g.length = ssize t) : ContextFits t (elementRead x t g) := by
  obtain ⟨hlt, hmod, -⟩ := (fifoOk_reading hwr).1 h.fifo
  have hroom := add_le_of_dvd_of_lt hmod (ssize_dvd_seqBytes t) hlt
  have hlong : (x.fifo ++ g).length = x.fifo.length + ssize t := by rw [List.length_append, hlen]
  have hpos := ssize_pos t
  have hlegal := h.ssizeLegal
  refine { h with sa := ?_, fifo := ?_, part := rfl }
  · exact multipleOf_nextAddr _ (by omega) h.sa (multipleOf_signExtend (by omega) h.soff)
  · by_cases hfull : (x.fifo ++ g).length = seqBytes t
    · refine (fifoOk_writing (decide_eq_true hfull)).2 ⟨?_, hfull.le, ?_, hrem⟩
      · show 0 < (x.fifo ++ g).length
        omega
      · show (x.fifo ++ g).length % dsize t = 0
        rw [hfull]
        exact Nat.mod_eq_zero_of_dvd (dsize_dvd_seqBytes t)
    · refine (fifoOk_reading (decide_eq_false hfull)).2 ⟨?_, ?_, fun hzero => absurd hzero hrem⟩
      · show (x.fifo ++ g).length < seqBytes t
        omega
      · show (x.fifo ++ g).length % ssize t = 0
        rw [hlong, Nat.add_mod_right, hmod]

theorem partRead (h : ContextFits t x) (hwr : x.wr = false) (hrem : x.rem ≠ 0) {b : List Byte}
    (hlen : b.length = (partWidth (ssize t)).bytes) : ContextFits t (partRead t x b) := by
  unfold Machine.partRead
  split
  · next hlt => exact h.partiallyRead hwr hrem hlen hlt
  · next hfull =>
    obtain ⟨hgot, hless⟩ := h.got
    rw [List.length_append, hlen] at hfull
    refine h.elementRead hwr hrem ?_
    rw [List.length_append, hlen]
    exact add_bytes_partWidth_of_not_lt hgot hless hfull

/-- A part of a destination element that leaves the element unfinished. -/
theorem partiallyWritten (h : ContextFits t x) (hwr : x.wr = true)
    (hlt : x.part.put + (partWidth (dsize t)).bytes < dsize t) :
    ContextFits t { x with part := .writing (x.part.put + (partWidth (dsize t)).bytes) } := by
  obtain ⟨hput, -⟩ := h.put
  have hwide : (partWidth (dsize t)).bytes = 4 := bytes_partWidth_of_lt hlt
  refine h.withPart ?_
  simp only [partOk, hwr, hwide, Bool.true_and, decide_eq_true_eq]
  omega

/-- One sequence less is left to move when its last element has been written (R152). -/
theorem rem_sub_seqBytes (h : ContextFits t x) (hrem : x.rem ≠ 0) :
    (x.rem - BitVec.ofNat 32 (seqBytes t)).toNat % seqBytes t = 0 := by
  have hpos : 0 < x.rem.toNat := Nat.pos_of_ne_zero fun hzero => hrem (BitVec.eq_of_toNat_eq hzero)
  have hle : seqBytes t ≤ x.rem.toNat := Nat.le_of_dvd hpos (Nat.dvd_of_mod_eq_zero h.rem)
  have hlt := x.rem.isLt
  have hsub : (x.rem - BitVec.ofNat 32 (seqBytes t)).toNat = x.rem.toNat - seqBytes t := by
    rw [BitVec.toNat_sub, BitVec.toNat_ofNat]
    omega
  rw [hsub]
  exact Nat.mod_eq_zero_of_dvd (Nat.dvd_sub (Nat.dvd_of_mod_eq_zero h.rem) (Nat.dvd_refl _))

/-- A whole destination element leaves the queue: whole elements are left to write, or the next sequence is to be
read (R152). -/
theorem elementWritten (h : ContextFits t x) (hwr : x.wr = true) : ContextFits t (elementWritten x t) := by
  obtain ⟨-, hle, hmod, hrem⟩ := (fifoOk_writing hwr).1 h.fifo
  have hlegal := h.dsizeLegal
  have hda : multipleOf (nextAddr x.da (Machine.doff t) (dmod t)) (dsizeCode t) = true :=
    multipleOf_nextAddr _ (by omega) h.da (multipleOf_signExtend (by omega) h.doff)
  have hlong : (x.fifo.drop (dsize t)).length = x.fifo.length - dsize t := List.length_drop
  unfold Machine.elementWritten
  by_cases hempty : x.fifo.drop (dsize t) = []
  · simp only [hempty, List.isEmpty_nil, Bool.not_true, if_true]
    exact { h with
      da := hda, rem := h.rem_sub_seqBytes hrem, part := rfl
      fifo := (fifoOk_reading rfl).2 ⟨seqBytes_pos t, Nat.zero_mod _, fun _ => rfl⟩ }
  · have hpos : 0 < (x.fifo.drop (dsize t)).length := List.length_pos_of_ne_nil hempty
    have hsome : (x.fifo.drop (dsize t)).isEmpty = false := by simpa using hempty
    simp only [hsome, Bool.not_false, if_false, Bool.false_eq_true]
    refine { h with da := hda, part := rfl, fifo := (fifoOk_writing rfl).2 ⟨hpos, ?_, ?_, hrem⟩ }
    · show (x.fifo.drop (dsize t)).length ≤ seqBytes t
      omega
    · show (x.fifo.drop (dsize t)).length % dsize t = 0
      rw [hlong]
      exact Nat.mod_eq_zero_of_dvd (Nat.dvd_sub (Nat.dvd_of_mod_eq_zero hmod) (Nat.dvd_refl _))

theorem partWritten (h : ContextFits t x) (hwr : x.wr = true) : ContextFits t (partWritten t x) := by
  unfold Machine.partWritten
  split
  · next hlt => exact h.partiallyWritten hwr hlt
  · exact h.elementWritten hwr

/-- Every access of a context leaves it in agreement with its slot. -/
theorem advanced (h : ContextFits t x) {y : Ctx} (hadv : Advanced t x y) : ContextFits t y := by
  cases hadv with
  | read hwr hrem hlen => exact h.partRead hwr hrem hlen
  | written hwr => exact h.partWritten hwr
  | loaded hwr hrem hlast hesg hleft hlen =>
    have himage := h.image
    refine h.withPart ?_
    simp only [partOk, hwr, hrem, hlast, hesg, List.length_append, hlen, Bool.not_false, beq_self_eq_true,
      Bool.and_self, Bool.true_and, decide_eq_true_eq]
    omega
  | loadRefused hwr hrem hlast hesg => exact h.withPart (by simp [partOk, hwr, hrem, hlast, hesg])

end ContextFits

/-! ### A checked slot starts a fitting context (R140, R141) -/

theorem kindIf_eq_nil {b : Bool} {k : ErrKind} : kindIf b k = [] ↔ b = false := by
  cases b <;> simp [kindIf]

/-- The context that a channel starts with fits the slot, when the check of R141 finds no error there. -/
theorem contextFits_startCtx {t : Tcd} (c : Chan) (h : slotErrors t = []) : ContextFits t (startCtx c t) := by
  simp only [slotErrors, List.append_eq_nil_iff, kindIf_eq_nil, Bool.or_eq_false_iff, Bool.and_eq_false_imp,
    Bool.not_eq_false', decide_eq_true_eq, beq_eq_false_iff_ne, ne_eq] at h
  obtain ⟨⟨⟨⟨⟨⟨hss, hsa⟩, hso⟩, ⟨hds, hda⟩⟩, hdo⟩, ⟨⟨⟨⟨hn, hsn⟩, hdn⟩, hcount⟩, -⟩⟩, hlink⟩ := h
  have hrem : (nbytes t).toNat % seqBytes t = 0 := by
    rcases seqBytes_eq t with hseq | hseq <;> rw [hseq]
    · exact of_decide_eq_true (hsn hss)
    · exact of_decide_eq_true (hdn hds)
  exact {
    ssizeLegal := hss, dsizeLegal := hds, soff := hso hss, doff := hdo hds, sa := hsa, da := hda, rem := hrem
    count := hcount, link := hlink, part := rfl
    fifo := (fifoOk_reading rfl).2 ⟨seqBytes_pos t, Nat.zero_mod _, fun _ => rfl⟩ }

/-! ### Flags of a slot that no context depends on -/

/-- The slots `u` and `v` differ at most in `CSR`, and there not in `ESG`: the operands of a minor loop are the
same. -/
def sameOperands (u v : Tcd) : Prop := v = { u with csr := v.csr } ∧ csrEsg v = csrEsg u

theorem sameOperands.refl (u : Tcd) : sameOperands u u := ⟨rfl, rfl⟩

theorem sameOperands.setActive {u v : Tcd} (h : sameOperands u v) (b : Bool) : sameOperands u (setActive v b) := by
  obtain ⟨hfields, hesg⟩ := h
  exact ⟨by rw [Machine.setActive, hfields], (csrEsg_setActive v b).trans hesg⟩

theorem sameOperands_setStart (u : Tcd) (b : Bool) : sameOperands u (setStart u b) := ⟨rfl, csrEsg_setStart u b⟩

/-- Whether a context fits its slot depends on the operands only. -/
theorem ContextFits.congr {u v : Tcd} {x : Ctx} (h : ContextFits u x) (hsame : sameOperands u v) :
    ContextFits v x := by
  obtain ⟨hfields, hesg⟩ := hsame
  generalize v.csr = c at hfields
  subst hfields
  have hpart : partOk { u with csr := c } x = true := by
    have hu := h.part
    unfold partOk at hu ⊢
    rw [hesg]
    exact hu
  exact { h with link := by rw [hesg]; exact h.link, part := hpart }

/-- An executing channel's slot keeps its operands through every operation of the host (R250, R331). -/
theorem HostSlotEffect.sameOperands {u v : Tcd} (h : HostSlotEffect u v) (hactive : csrActive u = true) :
    sameOperands u v := by
  obtain ⟨hfields, hbits⟩ := h.of_active hactive
  exact ⟨hfields, hbits 4 (by decide) (by decide)⟩

theorem sameOperands_markActive (c n : Chan) (s : State) : sameOperands (s.slot n) ((markActive c s).slot n) := by
  rw [slot_markActive]
  split
  · next hn => subst hn; exact ⟨rfl, by simp⟩
  · exact .refl _

/-- Error capture writes flags only (R288). -/
theorem sameOperands_raiseChannelError {u : Tcd} {s : State} (c n : Chan) (kinds : List ErrKind)
    (h : sameOperands u (s.slot n)) : sameOperands u ((raiseChannelError c kinds s).slot n) := by
  rw [slot_raiseChannelError]
  split
  · next hn => subst hn; exact h.setActive false
  · exact h

theorem slot_retire_of_ne {c n : Chan} (s : State) (hn : n ≠ c) : (retire c s).slot n = s.slot n := by
  unfold retire cancelCheck
  split
  · exact (slot_raiseChannelError ..).trans (if_neg hn)
  · split <;> rfl

theorem sameOperands_minorDone (x : Ctx) (newc : Half) (s : State) {n : Chan} (hn : n ≠ x.ch) :
    sameOperands (s.slot n) ((minorDone x newc s).slot n) := by
  rw [slot_minorDone]
  simp only [hn, if_false]
  split
  · exact sameOperands_setStart ..
  · exact .refl _

theorem sameOperands_majorCommit (x : Ctx) (s : State) {n : Chan} (hn : n ≠ x.ch) :
    sameOperands (s.slot n) ((majorCommit x s).slot n) := by
  rw [slot_majorCommit]
  simp only [hn, if_false]
  split
  · exact sameOperands_setStart ..
  · exact .refl _

/-- The end of a minor loop writes its own channel's slot and at most starts another (R161, R163, R170, R171). -/
theorem Completed.sameOperands {x : Ctx} {s t : State} (h : Completed x s t) {n : Chan} (hn : n ≠ x.ch) :
    sameOperands (s.slot n) (t.slot n) := by
  cases h with
  | minor newc =>
    rw [slot_retire_of_ne _ hn]
    exact sameOperands_minorDone x newc s hn
  | major =>
    rw [majorDone, slot_retire_of_ne _ hn]
    exact sameOperands_majorCommit x s hn
  | majorLoaded image =>
    rw [majorDoneLoad, slot_retire_of_ne _ hn, slot_setSlot, if_neg hn]
    exact sameOperands_majorCommit x s hn
  | majorFailed => exact sameOperands_raiseChannelError _ _ _ (sameOperands_majorCommit x s hn)

/-! ### Contexts stay consistent with their slots (R84, R141, R150, R153, R211) -/

/-- The executing context fits its slot after a step, and the suspended one stays on unchanged operands. -/
theorem contextsOk_of_susp_eq {s t : State} (hs : contextsOk s)
    (hcur : ∀ x, t.cur = some x → ContextFits (t.slot x.ch) x) (hsusp : t.susp = s.susp)
    (hsame : ∀ y, s.susp = some y → sameOperands (s.slot y.ch) (t.slot y.ch)) : contextsOk t := by
  obtain ⟨-, hsuspended⟩ := hs
  refine ⟨fun x hx => ctxOk_iff.2 (hcur x hx), fun y hy => ?_⟩
  rw [hsusp] at hy
  obtain ⟨hfits, hboundary, hrem⟩ := hsuspended y hy
  exact ⟨ctxOk_iff.2 ((ctxOk_iff.1 hfits).congr (hsame y hy)), hboundary, hrem⟩

/-- A channel that executes has its `ACTIVE` bit set. -/
theorem csrActive_of_context {s : State} (hs : executionAgrees s) {x : Ctx} (hx : s.cur = some x ∨ s.susp = some x) :
    csrActive (s.slot x.ch) = true := by
  obtain ⟨hagree, -⟩ := hs
  rw [hagree]
  rcases hx with hx | hx <;> simp [executes, hx]

theorem contextsOk_otherAgent {s t : State} (h : OtherAgentEffect s t) (hag : executionAgrees s) (hs : contextsOk s) :
    contextsOk t := by
  rcases h.contexts with ⟨hcur, hsusp⟩ | ⟨hcur, hsusp, hslots⟩
  · exact ⟨by simp [hcur], by simp [hsusp]⟩
  · have hsame {x : Ctx} (hx : s.cur = some x ∨ s.susp = some x) : sameOperands (s.slot x.ch) (t.slot x.ch) :=
      (hslots x.ch).sameOperands (csrActive_of_context hag hx)
    refine contextsOk_of_susp_eq hs (fun x hx => ?_) hsusp fun y hy => hsame (.inr hy)
    rw [hcur] at hx
    exact (ctxOk_iff.1 (hs.1 x hx)).congr (hsame (.inl hx))

/-- The check of R141 stands between a request and a context. -/
theorem contextsOk_activate {s : State} (c : Chan) (hs : contextsOk s) : contextsOk (activate c s) := by
  rcases activate_cases c s with ⟨hcheck, hact⟩ | ⟨-, hact⟩ <;> rw [hact]
  · rw [confcheck_markActive, confcheck, List.append_eq_nil_iff] at hcheck
    obtain ⟨hslot, -⟩ := hcheck
    refine contextsOk_of_susp_eq hs (fun x hx => ?_) (markActive_susp c s) fun y _ => sameOperands_markActive c y.ch s
    cases hx
    exact (contextFits_startCtx c hslot).congr (sameOperands_markActive c c s)
  · exact contextsOk_of_susp_eq hs (fun x hx => by cases hx) (markActive_susp c s) fun y _ =>
      sameOperands_raiseChannelError _ _ _ (sameOperands_markActive c y.ch s)

theorem contextsOk_mover {s t : State} (h : MoverTransition s t) (hag : executionAgrees s) (hs : contextsOk s) :
    contextsOk t := by
  obtain ⟨hexecuting, hsuspended⟩ := hs
  cases h with
  | idle => exact ⟨hexecuting, hsuspended⟩
  | resumed y hsusp =>
    refine ⟨fun x hx => ?_, fun z hz => by cases hz⟩
    cases hx
    exact (hsuspended y hsusp).1
  | arbitrated c d => exact contextsOk_activate (s := { s with draws := d }) c ⟨hexecuting, hsuspended⟩
  | preempted x k d hcur hrem hboundary =>
    refine contextsOk_activate k ⟨fun z hz => (by cases hz), fun y hy => ?_⟩
    cases hy
    exact ⟨hexecuting x hcur, hboundary, hrem⟩
  | accessed x y e m d hcur _ _ hadv =>
    refine ⟨fun z hz => ?_, hsuspended⟩
    cases hz
    have hfits := (ctxOk_iff.1 (hexecuting x hcur)).advanced hadv
    rw [hadv.ch]
    exact ctxOk_iff.2 hfits
  | refused x e kind =>
    exact contextsOk_of_susp_eq ⟨hexecuting, hsuspended⟩ (fun z hz => by cases hz) rfl fun y _ =>
      sameOperands_raiseChannelError _ _ _ (.refl _)
  | completed x hcur hend =>
    refine contextsOk_of_susp_eq ⟨hexecuting, hsuspended⟩ (fun z hz => ?_) hend.stopped.susp fun y hy => ?_
    · rw [hend.cur] at hz
      cases hz
    · obtain ⟨-, hdiffer⟩ := hag
      have hne : x.ch ≠ y.ch := by simpa [contextsDiffer, hcur, hy] using hdiffer
      exact hend.sameOperands hne.symm

/-- Settles O58: every access keeps its context in agreement with the slot, and no other part of a step touches the
operands of an executing channel. -/
theorem contextsStayConsistent : Obligations.ContextsStayConsistent := by
  intro s t hag hs hstep
  obtain ⟨rest, hother | hmover⟩ := step_cases hstep
  · exact contextsOk_otherAgent hother hag hs
  · exact contextsOk_mover hmover hag hs

/-! ### Every bus access is aligned (R84, R85) -/

/-- A part of an element lies at a multiple of the part's size. -/
theorem bytes_partWidth_dvd_place {a : Addr} {k p : Nat} (hk : k ≤ 32) (ha : multipleOf a k = true) (hp : p % 4 = 0) :
    (partWidth (2 ^ k)).bytes ∣ (a + BitVec.ofNat 32 p).toNat := by
  have hsize := bytes_partWidth_dvd_size k
  exact dvd_toNat_add_ofNat (hsize.trans (Nat.pow_dvd_pow 2 hk)) (hsize.trans ((multipleOf_iff_dvd a k).1 ha))
    ((Width.bytes_dvd_four _).trans (Nat.dvd_of_mod_eq_zero hp))

/-- A word of the next descriptor lies at a multiple of 4. -/
theorem four_dvd_place {a : Addr} {p : Nat} (ha : multipleOf a 5 = true) (hp : p % 4 = 0) :
    4 ∣ (a + BitVec.ofNat 32 p).toNat :=
  dvd_toNat_add_ofNat (by decide) (Nat.dvd_trans (by decide) ((multipleOf_iff_dvd a 5).1 ha)) (Nat.dvd_of_mod_eq_zero hp)

/-- The next access of a context that fits its slot is aligned. -/
theorem ContextFits.aligned {t : Tcd} {x : Ctx} {e : BusEvent} (h : ContextFits t x) (he : isNextAccess t x e) :
    aligned e = true := by
  obtain ⟨hplace, hesg⟩ := he
  suffices hdvd : (nextAccess t x).2.bytes ∣ (nextAccess t x).1.toNat by
    rw [← hplace] at hdvd
    exact decide_eq_true (Nat.mod_eq_zero_of_dvd hdvd)
  have hss := h.ssizeLegal
  have hds := h.dsizeLegal
  obtain ⟨hput, -⟩ := h.put
  obtain ⟨hgot, -⟩ := h.got
  unfold nextAccess
  split
  · exact bytes_partWidth_dvd_place (by omega) h.da hput
  · next hwr =>
    split
    · next hrem => exact four_dvd_place (h.link (hesg (by simpa using hwr) hrem)) h.image
    · exact bytes_partWidth_dvd_place (by omega) h.sa hgot

/-- The data mover makes at most the one access that is next. -/
theorem MoverTransition.trace {s t : State} (h : MoverTransition s t) :
    t.trace = s.trace ∨
    ∃ x e, s.cur = some x ∧ isNextAccess (s.slot x.ch) x e ∧ t.trace = e :: s.trace := by
  cases h with
  | idle | resumed => exact .inl rfl
  | arbitrated | preempted => exact .inl (activate_trace _ _)
  | accessed x _ e _ _ hcur hplace => exact .inr ⟨x, e, hcur, hplace, rfl⟩
  | refused x e _ hcur hplace => exact .inr ⟨x, e, hcur, hplace, rfl⟩
  | completed x _ hend => exact .inl hend.trace

/-- Settles O59: the one access that a step may make is its context's next one, which a fitting context aligns. -/
theorem everyBusAccessIsAligned : Obligations.EveryBusAccessIsAligned := by
  intro s t _ hs hstep
  obtain ⟨hexecuting, -⟩ := hs
  obtain ⟨rest, hother | hmover⟩ := step_cases hstep
  · exact .inl hother.trace
  · rcases hmover.trace with hsame | ⟨x, e, hcur, hplace, htrace⟩
    · exact .inl hsame
    · exact .inr ⟨e, htrace, (ctxOk_iff.1 (hexecuting x hcur)).aligned hplace⟩

end Sys2Proof.Machine

/-! PROOF. Encoding (30_encoding.md): the encoder's bytes decode to the operation (O1, O2), words put into a slot decode
as their forms (O23, O24), addresses under a modulus (O25), the completion of a minor loop (O39) and the writes of `ACK`
(O51). -/

namespace Sys2Proof.Machine

open Sys2Proof.Safety

/-! ### Command words (R120) -/

/-- The offset `0x18 + k` of a `CMD8` word selects command `k`. -/
theorem decode_encodeCommand (k : BitVec 3) (b : Byte) :
    decode (encodeCommand k b).1 (encodeCommand k b).2 = .ok (decodeCommand k b) := by
  have hoff : (0x18 + k.setWidth 8 : Byte) &&& 0xF8 = 0x18 ∧ (0x18 + k.setWidth 8 : Byte).extractLsb' 0 3 = k := by
    revert k; decide
  obtain ⟨hcommand, hk⟩ := hoff
  simp only [encodeCommand, decode, if_pos hcommand, hk]

/-- A channel number as the command byte has neither `ALL` nor `NOP` set, and is the channel's. -/
theorem commandForm_oneByte (ch : Chan) (one : Chan → Instr) (all nop : Instr) :
    commandForm (oneByte ch) one all nop = one ch := by
  have hbyte : (oneByte ch).getLsbD 7 = false ∧ (oneByte ch).getLsbD 6 = false ∧
      (oneByte ch).extractLsb' 0 5 = ch := by
    revert ch; decide
  obtain ⟨hnop, hall, hch⟩ := hbyte
  simp only [commandForm, hnop, hall, hch, Bool.false_eq_true, if_false]

/-! ### Register accesses (R121, R122, R231) -/

/-- An access is a store. -/
def isStore {w : Nat} : Access w → Bool
  | .read => false
  | .write _ => true

/-- The value bytes of an access as a word: what a store writes, widened with zeros, and 0 for a load. -/
def operand {w : Nat} : Access w → Word
  | .read => 0
  | .write v => v.setWidth 32

/-- The access is read back from its direction and its operand. -/
theorem accessOf_operand {w : Nat} (hw : w ≤ 32) (a : Access w) : accessOf w (isStore a) (operand a) = a := by
  cases a with
  | read => rfl
  | write v => simp [accessOf, isStore, operand, BitVec.setWidth_setWidth_of_le v hw]

/-- The control byte that the encoder writes: the direction, at the register's own width (assumption 8). -/
def ownWidthControl (store : Bool) : Byte := if store then 1 else 0

theorem accessBytes_eq {w : Nat} (a : Access w) :
    accessBytes a = ownWidthControl (isStore a) :: bytes32 (operand a) := by
  cases a with
  | read => simp [accessBytes, ownWidthControl, isStore, operand, bytes32]
  | write v => rfl

theorem widthAgrees_ownWidthControl (b : Bool) (own : Nat) : widthAgrees (ownWidthControl b) own = true := by
  cases b <;> rfl

theorem getLsbD_ownWidthControl_zero (b : Bool) : (ownWidthControl b).getLsbD 0 = b := by cases b <;> rfl

/-- The bytes of an access to an engine register select the register, at its own width. -/
theorem decode_encodeEng {w : Nat} (r : EngReg) (a : Access w) :
    decode (encodeEng r a).1 (encodeEng r a).2 = decodeEngAccess (isStore a) (operand a) r := by
  simp only [encodeEng, accessBytes_eq, bytes16, bytes32, List.cons_append, List.nil_append, decode, concat_bytes16,
    concat_bytes32, decodeEng16, engSelect_engOffset, widthAgrees_ownWidthControl, getLsbD_ownWidthControl_zero, if_true]

/-- The bytes of an access to `CHCFG[n]` decode to it. -/
theorem decode_encode_chcfg (n : Chan) (a : Access 32) :
    decode (encode (.chcfg n a)).1 (encode (.chcfg n a)).2 = .ok (.chcfg n a) := by
  have hoff : (n.setWidth 8 <<< 2 : Byte) &&& 0x80 = 0 ∧ (n.setWidth 8 <<< 2 : Byte) &&& 0x03 = 0 ∧
      (n.setWidth 8 <<< 2 : Byte).extractLsb' 2 5 = n := by
    revert n; decide
  obtain ⟨hsurface, haligned, hchan⟩ := hoff
  simp only [encode, accessBytes_eq, bytes32, decode, concat_bytes32, decodeMux8, if_neg (not_not.2 hsurface),
    if_pos (And.intro haligned (widthAgrees_ownWidthControl ..)), hchan, getLsbD_ownWidthControl_zero,
    accessOf_operand (Nat.le_refl 32)]

/-! ### Descriptors and their words (R110 to R115) -/

theorem le16_bytes16_append (v : Half) (rest : List Byte) : le16 (bytes16 v ++ rest) = v := concat_bytes16 v

theorem le32_bytes32_append (v : Word) (rest : List Byte) : le32 (bytes32 v ++ rest) = v := concat_bytes32 v

/-- The eleven fields are read back from their offsets in the image (R110). -/
theorem tcdOfBytes_bytesOfTcd (d : Tcd) (rest : List Byte) : tcdOfBytes (bytesOfTcd d ++ rest) = d := by
  rw [tcdOfBytes, Tcd.mk.injEq]
  exact ⟨le32_bytes32_append .., le16_bytes16_append .., le16_bytes16_append .., le32_bytes32_append ..,
    le32_bytes32_append .., le32_bytes32_append .., le16_bytes16_append .., le16_bytes16_append ..,
    le32_bytes32_append .., le16_bytes16_append .., le16_bytes16_append ..⟩

/-! The fields of a word that the encoder appends from them. The widths of the appended parts stay sums, or the library's
lemmas on `++` would not meet them. -/

theorem attrOfWord_wordOfAttr (w : AttrWord) : attrOfWord (wordOfAttr w) = w := by
  cases w
  simp [attrOfWord, wordOfAttr, BitVec.extractLsb'_append_eq_of_le, BitVec.extractLsb'_append_eq_right, -Nat.reduceAdd]

theorem csrOfWord_wordOfCsr (w : CsrWord) : csrOfWord (wordOfCsr w) = w := by
  cases w
  simp [csrOfWord, wordOfCsr, BitVec.getLsbD_append, BitVec.extractLsb'_append_eq_of_le,
    BitVec.extractLsb'_append_eq_right, -Nat.reduceAdd, -BitVec.getLsbD_eq_getElem]

/-- The fields of an `NBYTES` word of the plain form (R112). -/
theorem wordOfNbytesPlain_fields (c : BitVec 30) :
    (wordOfNbytesPlain c).getLsbD 31 = false ∧ (wordOfNbytesPlain c).getLsbD 30 = false ∧
    (wordOfNbytesPlain c).extractLsb' 0 30 = c := by
  simp [wordOfNbytesPlain, BitVec.getLsbD_append, BitVec.extractLsb'_append_eq_right, -Nat.reduceAdd,
    -BitVec.getLsbD_eq_getElem]

/-- The fields of an `NBYTES` word of the form with a minor-loop offset (R112). -/
theorem wordOfNbytesOff_fields (sm dm : Bool) (o : BitVec 20) (c : BitVec 10) :
    (wordOfNbytesOff sm dm o c).getLsbD 31 = sm ∧ (wordOfNbytesOff sm dm o c).getLsbD 30 = dm ∧
    (wordOfNbytesOff sm dm o c).extractLsb' 10 20 = o ∧ (wordOfNbytesOff sm dm o c).extractLsb' 0 10 = c := by
  simp [wordOfNbytesOff, BitVec.getLsbD_append, BitVec.extractLsb'_append_eq_of_le,
    BitVec.extractLsb'_append_eq_right, -Nat.reduceAdd, -BitVec.getLsbD_eq_getElem]

/-- The fields of an iteration-count word of the plain form (R113). -/
theorem wordOfIterPlain_fields (c : BitVec 15) :
    (wordOfIterPlain c).getLsbD 15 = false ∧ (wordOfIterPlain c).extractLsb' 0 15 = c := by
  simp [wordOfIterPlain, BitVec.getLsbD_append, BitVec.extractLsb'_append_eq_right, -Nat.reduceAdd,
    -BitVec.getLsbD_eq_getElem]

/-- The fields of an iteration-count word with a channel link (R113). -/
theorem wordOfIterLink_fields (r : Bool) (k : Chan) (c : BitVec 9) :
    (wordOfIterLink r k c).getLsbD 15 = true ∧ (wordOfIterLink r k c).getLsbD 14 = r ∧
    (wordOfIterLink r k c).extractLsb' 9 5 = k ∧ (wordOfIterLink r k c).extractLsb' 0 9 = c := by
  simp [wordOfIterLink, BitVec.getLsbD_append, BitVec.extractLsb'_append_eq_of_le,
    BitVec.extractLsb'_append_eq_right, -Nat.reduceAdd, -BitVec.getLsbD_eq_getElem]

/-- A link word names a multiple of 32 (R115). -/
theorem wordOfSga_fields (l : BitVec 27) :
    wordOfSga l &&& 0x1F = 0 ∧ (wordOfSga l).extractLsb' 5 27 = l ∧ (wordOfSga l).toNat = 32 * l.toNat := by
  have htoNat : (wordOfSga l).toNat = 32 * l.toNat := by
    rw [wordOfSga, BitVec.toNat_append, BitVec.toNat_zero, Nat.or_zero, Nat.shiftLeft_eq, Nat.mul_comm]
  refine ⟨BitVec.eq_of_toNat_eq ?_, BitVec.extractLsb'_append_eq_left, htoNat⟩
  rw [BitVec.toNat_and, htoNat]
  exact (Nat.and_two_pow_sub_one_eq_mod _ 5).trans (by simp)

theorem decodeNbytes_wordOfNbytesPlain (n : Chan) (c : BitVec 30) :
    decodeNbytes n (wordOfNbytesPlain c) = .nbytesPlain n c := by
  obtain ⟨hsm, hdm, hcount⟩ := wordOfNbytesPlain_fields c
  simp only [decodeNbytes, hsm, hdm, hcount, Bool.or_false, Bool.false_eq_true, if_false]

theorem decodeNbytes_wordOfNbytesOff (n : Chan) {sm dm : Bool} (o : BitVec 20) (c : BitVec 10)
    (h : (sm || dm) = true) : decodeNbytes n (wordOfNbytesOff sm dm o c) = .nbytesOff n sm dm o c := by
  obtain ⟨hsm, hdm, hoff, hcount⟩ := wordOfNbytesOff_fields sm dm o c
  simp only [decodeNbytes, hsm, hdm, hoff, hcount, h, if_true]

theorem decodeIter_wordOfIterPlain (n : Chan) (f : IterField) (c : BitVec 15) :
    decodeIter n f (wordOfIterPlain c) = .iterPlain n f c := by
  obtain ⟨hlink, hcount⟩ := wordOfIterPlain_fields c
  simp only [decodeIter, hlink, hcount, Bool.false_eq_true, if_false]

theorem decodeIter_wordOfIterLink (n : Chan) (f : IterField) (r : Bool) (k : Chan) (c : BitVec 9) :
    decodeIter n f (wordOfIterLink r k c) = .iterLink n f r k c := by
  obtain ⟨hlink, hr, hk, hcount⟩ := wordOfIterLink_fields r k c
  simp only [decodeIter, hlink, hr, hk, hcount, if_true]

theorem decodeDlastSga_wordOfSga (n : Chan) (l : BitVec 27) : decodeDlastSga n true (wordOfSga l) = .sga n l := by
  obtain ⟨haligned, hlink, -⟩ := wordOfSga_fields l
  simp only [decodeDlastSga, haligned, hlink, if_true]

/-- The bytes of a descriptor and its slot decode to it. -/
theorem decode_encode_tcd (n : Chan) (d : Tcd) :
    decode (encode (.tcd n d)).1 (encode (.tcd n d)).2 = .ok (.tcd n d) := by
  have hlen : (bytesOfTcd d ++ [slotByte n false]).length = 33 := rfl
  have hslot : (bytesOfTcd d ++ [slotByte n false]).getD 32 0 = slotByte n false := rfl
  obtain ⟨hn, -⟩ := slotByte_fields n false
  simp only [encode, decode, hlen, if_true, tcdOfBytes_bytesOfTcd, hslot, hn]

/-! The two or four bytes of a word and its slot byte, taken apart in each format. -/

theorem decode_attr_bytes16 (n : Chan) (v : Half) :
    decode .attr (bytes16 v ++ [slotByte n false]) = .ok (.attr n (attrOfWord v)) := by
  simp only [bytes16, List.cons_append, List.nil_append, decode, concat_bytes16, slotByte_fields]

theorem decode_csr_bytes16 (n : Chan) (v : Half) :
    decode .csr (bytes16 v ++ [slotByte n false]) = .ok (.csr n (csrOfWord v)) := by
  simp only [bytes16, List.cons_append, List.nil_append, decode, concat_bytes16, slotByte_fields]

theorem decode_iter_bytes16 (n : Chan) (f : IterField) (v : Half) :
    decode .iter (bytes16 v ++ [slotByte n (iterSel f)]) = .ok (decodeIter n f v) := by
  have hfield : (if iterSel f then IterField.biter else .citer) = f := by cases f <;> rfl
  simp only [bytes16, List.cons_append, List.nil_append, decode, concat_bytes16, slotByte_fields, hfield]

theorem decode_nbytes_bytes32 (n : Chan) (v : Word) :
    decode .nbytes (bytes32 v ++ [slotByte n false]) = .ok (decodeNbytes n v) := by
  simp only [bytes32, List.cons_append, List.nil_append, decode, concat_bytes32, slotByte_fields]

theorem decode_dlastSga_bytes32 (n : Chan) (esg : Bool) (v : Word) :
    decode .dlastSga (bytes32 v ++ [slotByte n esg]) = .ok (decodeDlastSga n esg v) := by
  simp only [bytes32, List.cons_append, List.nil_append, decode, concat_bytes32, slotByte_fields]

/-! ### Every operation -/

/-- Settles O1, by cases on the operation: each format's bytes are taken apart once, and each word's fields are read
back from where the encoder put them. -/
theorem decodeEncodeAgree : Obligations.DecodeEncodeAgree := by
  intro i hwf
  cases i
  case ceei ch | seei ch | cerq ch | serq ch | cdne ch | ssrt ch | cerr ch | cint ch =>
    exact (decode_encodeCommand _ _).trans (congrArg _ (commandForm_oneByte ch _ _ _))
  case ceeiAll | seeiAll | cerqAll | serqAll | cdneAll | ssrtAll | cerrAll | cintAll | ceeiNop | seeiNop | cerqNop |
      serqNop | cdneNop | ssrtNop | cerrNop | cintNop =>
    exact decode_encodeCommand _ _
  case cr a | es a | erq a | eei a | int a | err a | hrs a | dchpri n a | tcdSaddr n a | tcdSoff n a | tcdAttr n a |
      tcdNbytes n a | tcdSlast n a | tcdDaddr n a | tcdDoff n a | tcdCiter n a | tcdDlastSga n a | tcdCsr n a |
      tcdBiter n a =>
    simp (disch := decide) only [encode, decode_encodeEng, decodeEngAccess, decodeSlotAccess, accessOf_operand]
  case chcfg n a => exact decode_encode_chcfg n a
  case tcd n d => exact decode_encode_tcd n d
  case attr n w => exact (decode_attr_bytes16 n _).trans (by rw [attrOfWord_wordOfAttr])
  case nbytesPlain n c => exact (decode_nbytes_bytes32 n _).trans (by rw [decodeNbytes_wordOfNbytesPlain])
  case nbytesOff n sm dm o c => exact (decode_nbytes_bytes32 n _).trans (by rw [decodeNbytes_wordOfNbytesOff n o c hwf])
  case iterPlain n f c => exact (decode_iter_bytes16 n f _).trans (by rw [decodeIter_wordOfIterPlain])
  case iterLink n f r k c => exact (decode_iter_bytes16 n f _).trans (by rw [decodeIter_wordOfIterLink])
  case csr n w => exact (decode_csr_bytes16 n _).trans (by rw [csrOfWord_wordOfCsr])
  case dlast n v => exact decode_dlastSga_bytes32 n false v
  case sga n l => exact (decode_dlastSga_bytes32 n true _).trans (by rw [decodeDlastSga_wordOfSga])

/-- Settles O2: the decoder evaluated on the eight words. -/
theorem specWordsDecode : Obligations.SpecWordsDecode := by
  refine ⟨?_, ?_, ?_, ?_, ?_, ?_, ?_, ?_⟩ <;> rfl

/-! ### Words put into a slot (R111 to R115, R241) -/

/-- A word stored into the slot of a channel that does not execute changes that slot only, to what the store makes of
it. -/
theorem storeWord_of_idle {w : Nat} (put : Tcd → BitVec w → Tcd) {n : Chan} (v : BitVec w) {s : State}
    (h : csrActive (s.slot n) = false) :
    ∃ t, storeWord put n v s = .next t ∧ t.slot n = put (s.slot n) v ∧ wroteSlot s t n (put (s.slot n) v) := by
  refine ⟨(s.setSlot n (put (s.slot n) v)).ack, ?_, slot_setSlot_self .., wroteSlot_setSlot ..⟩
  simp [storeWord, slotAccess, h, State.updSlot]

/-- The sizes and moduli of a slot whose `ATTR` is the word of the fields `w` (R111, R116). -/
theorem attr_operands {t : Tcd} {w : AttrWord} (h : t.attr = wordOfAttr w) :
    ssize t = 2 ^ w.ssize.toNat ∧ dsize t = 2 ^ w.dsize.toNat ∧ smod t = w.smod.toNat ∧ dmod t = w.dmod.toNat := by
  simp [ssize, dsize, ssizeCode, dsizeCode, smod, dmod, h, attrOfWord_wordOfAttr]

/-- The byte count of a slot whose `NBYTES` has the plain form (R112). -/
theorem nbytesPlain_operands {t : Tcd} {c : BitVec 30} (h : t.nbytes = wordOfNbytesPlain c) :
    (nbytes t).toNat = c.toNat ∧ smloe t = false ∧ dmloe t = false ∧ mloff t = 0 := by
  obtain ⟨hsm, hdm, hcount⟩ := wordOfNbytesPlain_fields c
  have hsmloe : smloe t = false := by rw [smloe, h, hsm]
  have hdmloe : dmloe t = false := by rw [dmloe, h, hdm]
  refine ⟨?_, hsmloe, hdmloe, by simp [mloff, hsmloe, hdmloe]⟩
  simp only [nbytes, hsmloe, hdmloe, Bool.or_false, Bool.false_eq_true, if_false, h, hcount]
  exact BitVec.toNat_setWidth_of_le (by decide)

/-- The enables, the byte count and the signed offset of a slot whose `NBYTES` has the form with a minor-loop offset
(R112). -/
theorem nbytesOff_operands {t : Tcd} {sm dm : Bool} {o : BitVec 20} {c : BitVec 10}
    (h : t.nbytes = wordOfNbytesOff sm dm o c) :
    smloe t = sm ∧ dmloe t = dm ∧
    ((sm || dm) = true → (nbytes t).toNat = c.toNat ∧ (mloff t).toInt = o.toInt) := by
  obtain ⟨hsm, hdm, hoff, hcount⟩ := wordOfNbytesOff_fields sm dm o c
  have hsmloe : smloe t = sm := by rw [smloe, h, hsm]
  have hdmloe : dmloe t = dm := by rw [dmloe, h, hdm]
  refine ⟨hsmloe, hdmloe, fun hform => ⟨?_, ?_⟩⟩
  · simp only [nbytes, hsmloe, hdmloe, hform, if_true, h, hcount]
    exact BitVec.toNat_setWidth_of_le (by decide)
  · simp only [mloff, hsmloe, hdmloe, hform, if_true, h, hoff]
    exact BitVec.toInt_signExtend_of_le (by decide)

/-- Settles O23: each word is stored by `storeWord`, and the slot's operands are the fields of the word. -/
theorem attrNbytesLinkWordsDecode : Obligations.AttrNbytesLinkWordsDecode := by
  intro s n hidle
  refine ⟨fun w => ?_, fun c => ?_, fun sm dm o c => ?_, fun v => ?_, fun l => ?_⟩
  · obtain ⟨t, hexec, hslot, hwrote⟩ := storeWord_of_idle (fun u v => { u with attr := v }) (wordOfAttr w) hidle
    exact ⟨t, hexec, by rwa [hslot], attr_operands (by rw [hslot])⟩
  · obtain ⟨t, hexec, hslot, hwrote⟩ :=
      storeWord_of_idle (fun u v => { u with nbytes := v }) (wordOfNbytesPlain c) hidle
    exact ⟨t, hexec, by rwa [hslot], nbytesPlain_operands (by rw [hslot])⟩
  · obtain ⟨t, hexec, hslot, hwrote⟩ :=
      storeWord_of_idle (fun u v => { u with nbytes := v }) (wordOfNbytesOff sm dm o c) hidle
    exact ⟨t, hexec, by rwa [hslot], nbytesOff_operands (by rw [hslot])⟩
  · obtain ⟨t, hexec, -, hwrote⟩ := storeWord_of_idle (fun u v => { u with dlastSga := v }) v hidle
    exact ⟨t, hexec, hwrote⟩
  · obtain ⟨t, hexec, -, hwrote⟩ := storeWord_of_idle (fun u v => { u with dlastSga := v }) (wordOfSga l) hidle
    obtain ⟨-, -, htoNat⟩ := wordOfSga_fields l
    exact ⟨t, wordOfSga l, hexec, hwrote, htoNat⟩

theorem iterPlain_operands (c : BitVec 15) :
    elink (wordOfIterPlain c) = false ∧ (count (wordOfIterPlain c)).toNat = c.toNat := by
  obtain ⟨hlink, hcount⟩ := wordOfIterPlain_fields c
  refine ⟨hlink, ?_⟩
  simp only [count, elink, hlink, hcount, Bool.false_eq_true, if_false]
  exact BitVec.toNat_setWidth_of_le (by decide)

theorem iterLink_operands (r : Bool) (k : Chan) (c : BitVec 9) :
    elink (wordOfIterLink r k c) = true ∧ (wordOfIterLink r k c).getLsbD 14 = r ∧ linkCh (wordOfIterLink r k c) = k ∧
    (count (wordOfIterLink r k c)).toNat = c.toNat := by
  obtain ⟨hlink, hr, hk, hcount⟩ := wordOfIterLink_fields r k c
  refine ⟨hlink, hr, hk, ?_⟩
  simp only [count, elink, hlink, hcount, if_true]
  exact BitVec.toNat_setWidth_of_le (by decide)

/-- A field of `CSR` without the bits 6 and 13 is written as given (R241). -/
theorem extractLsb'_csrWritten (old v : Half) {i n : Nat} (h6 : 6 < i ∨ i + n ≤ 6) (h13 : 13 < i ∨ i + n ≤ 13) :
    (csrWritten old v).extractLsb' i n = v.extractLsb' i n := by
  refine BitVec.eq_of_getLsbD_eq fun j hj => ?_
  rw [BitVec.getLsbD_extractLsb', BitVec.getLsbD_extractLsb', getLsbD_csrWritten, if_neg (by omega), if_neg (by omega)]

/-- The fields of `CSR` after a host write: those of the word, with bit 13 zero and `ACTIVE` kept (R241). -/
theorem csrOfWord_csrWritten (old v : Half) :
    csrOfWord (csrWritten old v) = { csrOfWord v with rsvd := false, active := old.getLsbD 6 } := by
  simp only [csrOfWord, getLsbD_csrWritten]
  rw [extractLsb'_csrWritten _ _ (by decide) (by decide), extractLsb'_csrWritten _ _ (by decide) (by decide)]
  rfl

/-- Settles O24: each word is stored by `storeWord`, and the slot's operands are the fields of the word. -/
theorem iterCsrWordsDecode : Obligations.IterCsrWordsDecode := by
  intro s n hidle
  refine ⟨fun c => ?_, fun c => ?_, fun r k c => ?_, fun r k c => ?_, fun w => ?_⟩
  · obtain ⟨t, hexec, -, hwrote⟩ := storeWord_of_idle (putIter .citer) (wordOfIterPlain c) hidle
    exact ⟨t, _, hexec, hwrote, iterPlain_operands c⟩
  · obtain ⟨t, hexec, -, hwrote⟩ := storeWord_of_idle (putIter .biter) (wordOfIterPlain c) hidle
    exact ⟨t, _, hexec, hwrote, iterPlain_operands c⟩
  · obtain ⟨t, hexec, -, hwrote⟩ := storeWord_of_idle (putIter .citer) (wordOfIterLink r k c) hidle
    exact ⟨t, _, hexec, hwrote, iterLink_operands r k c⟩
  · obtain ⟨t, hexec, -, hwrote⟩ := storeWord_of_idle (putIter .biter) (wordOfIterLink r k c) hidle
    exact ⟨t, _, hexec, hwrote, iterLink_operands r k c⟩
  · obtain ⟨t, hexec, hslot, hwrote⟩ :=
      storeWord_of_idle (fun u v => { u with csr := csrWritten u.csr v }) (wordOfCsr w) hidle
    have hcsr : csrOfWord (t.slot n).csr = { w with rsvd := false, active := false } := by
      rw [hslot, csrOfWord_csrWritten, csrOfWord_wordOfCsr]
      exact congrArg (fun b => { w with rsvd := false, active := b }) hidle
    simp only [csrOfWord, CsrWord.mk.injEq] at hcsr
    obtain ⟨hbwc, hrsvd, hlinkCh, hdone, hactive, helink, hesg, hdreq, hhalf, hmajor, hstart⟩ := hcsr
    refine ⟨t, (t.slot n).csr, hexec, by rwa [hslot], hstart, hmajor, hhalf, hdreq, hesg, helink, hactive, hdone,
      hlinkCh, hrsvd, hbwc⟩

/-! ### The next address under a modulus (R118) -/

theorem getLsbD_modMask (m i : Nat) : (modMask m).getLsbD i = (decide (i < 32) && decide (i < m)) := by
  rw [modMask, BitVec.getLsbD_ofNat, Nat.testBit_two_pow_sub_one]

/-- Below the modulus each bit is the sum's, and from it up the old address's (R118). -/
theorem getLsbD_nextAddr (a : Addr) (o : Word) {m : Nat} (hm : 0 < m) (i : Nat) :
    (nextAddr a o m).getLsbD i = if i < m then (a + o).getLsbD i else a.getLsbD i := by
  rw [nextAddr, if_neg (Nat.ne_of_gt hm)]
  by_cases him : i < m
  · simpa [getLsbD_modMask, him] using BitVec.lt_of_getLsbD
  · simpa [getLsbD_modMask, him] using BitVec.lt_of_getLsbD

/-- Settles O25: the bits of the next address, above the window and inside it. -/
theorem nextAddressCirculatesInWindow : Obligations.NextAddressCirculatesInWindow := by
  refine fun a o => ⟨rfl, fun m hm _ => ⟨Nat.eq_of_testBit_eq fun i => ?_, Nat.eq_of_testBit_eq fun i => ?_⟩⟩
  · rw [Nat.testBit_div_two_pow, Nat.testBit_div_two_pow]
    exact (getLsbD_nextAddr a o hm (i + m)).trans (if_neg (by omega))
  · rw [Nat.testBit_mod_two_pow, Nat.testBit_mod_two_pow]
    by_cases hi : i < m
    · exact congrArg _ ((getLsbD_nextAddr a o hm i).trans (if_pos hi))
    · simp [hi]

/-! ### Completion of a minor loop that is not the last (R161 to R163) -/

/-- With no cancel pending, the step at the end of a minor loop that is not the last is `minor_done`, and no channel
executes then (R160). -/
theorem moverStep_of_minorEnd {s : State} {x : Ctx} (hcur : s.cur = some x) (hwr : x.wr = false) (hrem : x.rem = 0)
    (hcx : s.cr.cx = false) (hecx : s.cr.ecx = false) (hleft : newCount (s.slot x.ch) ≠ 0) :
    moverStep s = .next { minorDone x (newCount (s.slot x.ch)) s with cur := none } := by
  have hcr : (minorDone x (newCount (s.slot x.ch)) s).cr = s.cr := by rw [minorDone_eq]
  simp only [moverStep, hcur, hwr, hrem, completion, if_pos hleft, if_true, Bool.false_eq_true, if_false]
  rw [retire_of_no_cancel (by rw [hcr, hcx]) (by rw [hcr, hecx])]

/-- The slot of the channel itself, but for its `CSR` (R161). -/
theorem slot_minorDone_self (x : Ctx) (newc : Half) (s : State) :
    (minorDone x newc s).slot x.ch =
      { s.slot x.ch with
        saddr := x.sa + (if smloe (s.slot x.ch) then mloff (s.slot x.ch) else 0)
        daddr := x.da + (if dmloe (s.slot x.ch) then mloff (s.slot x.ch) else 0)
        citer := setCount (s.slot x.ch).citer newc
        csr := ((minorDone x newc s).slot x.ch).csr } := by
  rw [slot_minorDone, if_pos rfl]
  simp only
  split <;> rfl

/-- Of any other slot at most `CSR` changes (R163). -/
theorem slot_minorDone_of_ne (x : Ctx) (newc : Half) (s : State) {m : Chan} (hm : m ≠ x.ch) :
    (minorDone x newc s).slot m = { s.slot m with csr := ((minorDone x newc s).slot m).csr } := by
  rw [slot_minorDone, if_neg hm]
  simp only
  split <;> rfl

/-- Bit `i` after bit `k` of a word that has one was replaced. -/
theorem getLsbD_putBit_of_lt {w : Nat} (v : BitVec w) {k : Nat} (hk : k < w) (b : Bool) (i : Nat) :
    (putBit v k b).getLsbD i = if i = k then b else v.getLsbD i := by
  rw [getLsbD_putBit]
  by_cases hi : i = k
  · rw [if_pos ⟨hi.symm, hi ▸ hk⟩, if_pos hi]
  · rw [if_neg fun h => hi h.1.symm, if_neg hi]

theorem getLsbD_csr_slotAfterMinor (x : Ctx) (t : Tcd) (newc : Half) (i : Nat) :
    (slotAfterMinor x t newc).csr.getLsbD i = if i = 6 then false else t.csr.getLsbD i :=
  getLsbD_putBit_of_lt t.csr (by decide) false i

/-- Every bit of every `CSR`: `START` of the linked channel, and `ACTIVE` of the channel itself (R161, R163). -/
theorem getLsbD_csr_minorDone (x : Ctx) (newc : Half) (s : State) (m : Chan) (i : Nat) :
    ((minorDone x newc s).slot m).csr.getLsbD i =
      if i = 0 ∧ elink (s.slot x.ch).citer = true ∧ m = linkCh (s.slot x.ch).citer then true
      else if i = 6 ∧ m = x.ch then false else (s.slot m).csr.getLsbD i := by
  have hown : (if m = x.ch then slotAfterMinor x (s.slot x.ch) newc else s.slot m).csr.getLsbD i =
      if i = 6 ∧ m = x.ch then false else (s.slot m).csr.getLsbD i := by
    by_cases hm : m = x.ch
    · simp [hm, getLsbD_csr_slotAfterMinor]
    · simp [hm]
  rw [slot_minorDone]
  simp only
  by_cases hlink : elink (s.slot x.ch).citer = true ∧ m = linkCh (s.slot x.ch).citer
  · rw [if_pos hlink, setStart, getLsbD_putBit_of_lt _ (by decide), hown]
    simp only [hlink, and_true]
  · rw [if_neg hlink, hown, if_neg (c := i = 0 ∧ _) fun h => hlink h.2]

/-- Every interrupt latch: the channel's own, at the half-way count under `INTHALF` (R162). -/
theorem getLsbD_int_minorDone (x : Ctx) (newc : Half) (s : State) (m : Chan) :
    (minorDone x newc s).int.getLsbD m.toNat =
      if m = x.ch ∧ csrIntHalf (s.slot x.ch) = true ∧ newc = count (s.slot x.ch).biter >>> 1 then true
      else s.int.getLsbD m.toNat := by
  rw [minorDone_eq]
  simp only [halfComplete, Bool.and_eq_true, beq_iff_eq]
  by_cases hhalf : csrIntHalf (s.slot x.ch) = true ∧ newc = count (s.slot x.ch).biter >>> 1
  · rw [if_pos hhalf, getLsbD_putBit_chan]
    simp only [hhalf, and_self, and_true]
  · rw [if_neg hhalf, if_neg fun h => hhalf h.2]

/-- Settles O39: the step is `minor_done`, of which every slot, every `CSR` bit, every latch and the frame are known. -/
theorem minorLoopCompletion : Obligations.MinorLoopCompletion := by
  intro s x hnext hcur hwr hrem hcx hecx o hleft
  have hself := slot_minorDone_self x (newCount o) s
  have hciter : ((minorDone x (newCount o) s).slot x.ch).citer = setCount o.citer (newCount o) := by rw [hself]
  refine ⟨{ minorDone x (newCount o) s with cur := none },
    (step_of_moverNext hnext).trans (moverStep_of_minorEnd hcur hwr hrem hcx hecx hleft), hself, fun hpos => ?_,
    fun i hi => ?_, fun m hm => slot_minorDone_of_ne x _ s hm, fun m i => getLsbD_csr_minorDone x _ s m i,
    fun m => getLsbD_int_minorDone x _ s m, ?_, fun a => ?_⟩
  · exact (congrArg (fun v => (count v).toNat + 1) hciter).trans (count_setCount_pred o.citer hpos)
  · exact (congrArg (BitVec.getLsbD · i) hciter).trans ((getLsbD_setCount ..).trans (if_neg (Nat.not_lt.2 hi)))
  · rw [minorDone_eq]
  · rw [minorDone_eq]

/-! ### The writes of `ACK` (R127, R305) -/

/-- The selection of one channel reaches its slot only (R250). -/
theorem overSlots_selOne (s : State) (n : Chan) (f : Tcd → Tcd) : s.overSlots (selOne n) f = s.updSlot n f := by
  have hslots : (s.overSlots (selOne n) f).tcd = (s.updSlot n f).tcd := by
    refine Vector.ext fun i hi => ?_
    have hslot : (s.overSlots (selOne n) f).slot (BitVec.ofNat 5 i) = (s.updSlot n f).slot (BitVec.ofNat 5 i) := by
      simp only [slot_overSlots, slot_updSlot, getLsbD_selOne, decide_eq_true_eq]
      split
      · next h => rw [h]
      · rfl
    have hnum : (BitVec.ofNat 5 i).toNat = i := by rw [BitVec.toNat_ofNat, Nat.mod_eq_of_lt hi]
    simpa only [State.slot, hnum] using hslot
  calc s.overSlots (selOne n) f = { s with tcd := (s.overSlots (selOne n) f).tcd } := rfl
    _ = s.updSlot n f := by rw [hslots]; rfl

/-- The three writes of `ACK n`, in turn, give the acknowledged state (R305). -/
theorem clearInt_clearDone_clearErr (s : State) (n : Chan) :
    (((s.clearInt (selOne n)).ack.clearDone (selOne n)).ack.clearErr (selOne n)).ack = (s.acknowledge n).ack := by
  rw [State.clearDone, overSlots_selOne]
  rfl

@[simp] theorem State.acknowledge_erq (s : State) (n : Chan) : (s.acknowledge n).erq = s.erq := rfl
@[simp] theorem State.acknowledge_inprog (s : State) (n : Chan) : (s.acknowledge n).inprog = s.inprog := rfl

theorem slot_acknowledge (s : State) (n m : Chan) :
    (s.acknowledge n).slot m = if m = n then setDone (s.slot n) false else s.slot m := by
  rw [← slot_updSlot s n m (setDone · false)]
  rfl

theorem getLsbD_clearBits_selOne (r : Word) (n m : Chan) :
    (clearBits r (selOne n)).getLsbD m.toNat = if m = n then false else r.getLsbD m.toNat := by
  rw [getLsbD_clearBits, getLsbD_selOne]
  by_cases h : m = n <;> simp [h]

/-- Acknowledgment leaves no latch of the channel, so that one which nothing else holds is `Free` (R220, R221). -/
theorem chstate_acknowledge {s : State} {n : Chan} (hactive : csrActive (s.slot n) = false)
    (hstart : csrStart (s.slot n) = false) (hinprog : s.inprog.getLsbD n.toNat = false)
    (herq : s.erq.getLsbD n.toNat = false) (hcfg : (s.cfg n).enbl = false) :
    chstate (s.acknowledge n).ack n = .free := by
  have hslot : (s.acknowledge n).ack.slot n = setDone (s.slot n) false := (slot_acknowledge s n n).trans (if_pos rfl)
  have hbound : (s.acknowledge n).ack.cfg n = s.cfg n := rfl
  have herr : (s.acknowledge n).err.getLsbD n.toNat = false := (getLsbD_clearBits_selOne ..).trans (if_pos rfl)
  simp [chstate, hwRequest, hslot, hbound, herr, hactive, hstart, hinprog, herq, hcfg]

/-- Settles O51: the three writes are `acknowledge`, which reaches channel `n` only. -/
theorem acknowledgmentReturnsToFree : Obligations.AcknowledgmentReturnsToFree := by
  intro s n
  refine ⟨_, _, (s.acknowledge n).ack, rfl, rfl, congrArg _ (clearInt_clearDone_clearErr s n), rfl, fun m hm => ?_,
    chstate_acknowledge⟩
  exact ⟨(slot_acknowledge s n m).trans (if_neg hm), (getLsbD_clearBits_selOne ..).trans (if_neg hm),
    (getLsbD_clearBits_selOne ..).trans (if_neg hm)⟩

end Sys2Proof.Machine

/-! PROOF. Execution of a descriptor (40_descriptor_execution.md): the idle data mover (O31), the configuration check
(O32), activation (O33, O34), the copy law of a minor loop (O38), and the end of a major loop without and with a next
descriptor (O40, O42, O43). -/

namespace Sys2Proof.Machine

open Sys2Proof.Safety

/-! ### The flags of `CSR`, bit by bit (R114) -/

theorem getLsbD_csr_setStart (t : Tcd) (b : Bool) (i : Nat) :
    (setStart t b).csr.getLsbD i = if i = 0 then b else t.csr.getLsbD i := getLsbD_putBit_of_lt t.csr (by decide) b i
theorem getLsbD_csr_setActive (t : Tcd) (b : Bool) (i : Nat) :
    (setActive t b).csr.getLsbD i = if i = 6 then b else t.csr.getLsbD i := getLsbD_putBit_of_lt t.csr (by decide) b i
theorem getLsbD_csr_setDone (t : Tcd) (b : Bool) (i : Nat) :
    (setDone t b).csr.getLsbD i = if i = 7 then b else t.csr.getLsbD i := getLsbD_putBit_of_lt t.csr (by decide) b i

/-! ### Error capture (R22, R280, R288) -/

theorem ErrKind.code_not_channel (k : ErrKind) : ¬ (8 ≤ k.code ∧ k.code ≤ 12) := by cases k <;> decide

/-- Outside the channel's field, a bit of the record is 1 exactly for a kind of the capture. -/
theorem getLsbD_errRecord (c : Chan) (kinds : List ErrKind) {i : Nat} (hi : i < 17) (hfield : ¬ (8 ≤ i ∧ i ≤ 12)) :
    (errRecord c kinds).getLsbD i = true ↔ ∃ k ∈ kinds, k.code = i := by
  have hchannel : (c.setWidth 17 <<< 8 : BitVec 17).getLsbD i = false := by
    rw [BitVec.getLsbD_shiftLeft, BitVec.getLsbD_setWidth]
    by_cases h8 : i < 8
    · simp [h8]
    · simp [BitVec.getLsbD_of_ge c (i - 8) (by omega)]
  rw [errRecord, getLsbD_foldl_kinds _ _ _ hi, hchannel]
  simp

/-- The record names the channel: no kind has a bit in its field. -/
theorem errChn_errRecord (c : Chan) (kinds : List ErrKind) : (errRecord c kinds).extractLsb' 8 5 = c := by
  refine BitVec.eq_of_getLsbD_eq fun j hj => ?_
  rw [BitVec.getLsbD_extractLsb', Bool.eq_iff_iff, errRecord]
  have hbit := getLsbD_foldl_kinds kinds (c.setWidth 17 <<< 8) (8 + j) (by omega)
  have hnone : ¬ ∃ k ∈ kinds, k.code = 8 + j := by
    rintro ⟨k, -, hk⟩
    exact k.code_not_channel (by omega)
  simp only [hj, decide_true, Bool.true_and, hbit, or_iff_left hnone]
  rw [BitVec.getLsbD_shiftLeft, BitVec.getLsbD_setWidth]
  simp [show 8 + j < 17 by omega, show j < 17 by omega]

theorem esErrChn_raiseChannelError (c : Chan) (kinds : List ErrKind) (s : State) :
    esErrChn (raiseChannelError c kinds s) = c := errChn_errRecord c kinds

/-- The channel of a capture is `Faulted` (R220, R288). -/
theorem chstate_raiseChannelError (c : Chan) (kinds : List ErrKind) (s : State) :
    chstate (raiseChannelError c kinds s) c = .faulted := by
  have herr : (raiseChannelError c kinds s).err.getLsbD c.toNat = true :=
    (getLsbD_putBit_chan s.err c c true).trans (if_pos rfl)
  rw [chstate, if_pos herr]

/-- Error capture clears `ACTIVE` of its channel and changes no other bit of the slot (R288). -/
theorem slot_raiseChannelError_fields (c : Chan) (kinds : List ErrKind) (s : State) :
    (raiseChannelError c kinds s).slot c = { s.slot c with csr := ((raiseChannelError c kinds s).slot c).csr } := by
  rw [slot_raiseChannelError_self]
  rfl

theorem getLsbD_csr_raiseChannelError (c m : Chan) (kinds : List ErrKind) (s : State) (i : Nat) :
    ((raiseChannelError c kinds s).slot m).csr.getLsbD i =
      if i = 6 ∧ m = c then false else (s.slot m).csr.getLsbD i := by
  rw [slot_raiseChannelError]
  by_cases hm : m = c
  · rw [if_pos hm, getLsbD_csr_setActive, hm]
    simp only [and_true]
  · rw [if_neg hm, if_neg fun h => hm h.2]

/-! ### The idle data mover (R145, R323) -/

theorem arbitrate_of_no_request {s : State} (h : ∀ n, req s n = false) : arbitrate s = s := by
  have hnone : choose s (requesters s) = none :=
    choose_none.2 (List.filter_eq_nil_iff.2 fun n _ => by simp [h n])
  rw [arbitrate, hnone]

/-- With no context and no request the step changes nothing (R145). -/
theorem step_of_idle {s : State} (hnext : moverNext s) (hcur : s.cur = none) (hsusp : s.susp = none)
    (hreq : ∀ n, req s n = false) : step s = .next s := by
  rw [step_of_moverNext hnext]
  simp only [moverStep, hcur, hsusp, arbitrate_of_no_request hreq]

theorem req_of_quiescent {s : State} (h : quiescent s) (n : Chan) : req s n = false := by
  obtain ⟨herq, -, -, hstart⟩ := h
  simp [req, hwRequest, herq, hstart n]

theorem quiescent_reset : quiescent State.reset :=
  ⟨rfl, rfl, rfl, fun n => by rw [slot_reset]; rfl⟩

theorem step_of_quiescent {s : State} (hnext : moverNext s) (h : quiescent s) : step s = .next s := by
  have ⟨_, hcur, hsusp, _⟩ := h
  exact step_of_idle hnext hcur hsusp (req_of_quiescent h)

/-- Settles O31: arbitration finds no requester, in a quiescent state and at reset as well. -/
theorem idleDataMoverChangesNothing : Obligations.IdleDataMoverChangesNothing :=
  ⟨fun _ => step_of_idle, fun _ => step_of_quiescent, step_of_quiescent ⟨rfl, rfl⟩ quiescent_reset⟩

/-! ### The configuration check (R141) -/

theorem multipleOf_eq_false_iff {w : Nat} (v : BitVec w) (k : Nat) : multipleOf v k = false ↔ v.toNat % 2 ^ k ≠ 0 := by
  rw [multipleOf, decide_eq_false_iff_not]

theorem nodup_channels : channels.Nodup := by decide

/-- The priorities of a group repeat exactly when two of its channels have equal `CHPRI`. -/
theorem hasDuplicate_groupChpris_iff (s : State) (g : Bool) :
    hasDuplicate (groupChpris s g) = true ↔
      ∃ i j : Chan, i ≠ j ∧ i.getLsbD 4 = g ∧ j.getLsbD 4 = g ∧ (s.pri i).chpri = (s.pri j).chpri := by
  have hmem (n : Chan) : n ∈ channels.filter (fun n => n.getLsbD 4 == g) ↔ n.getLsbD 4 = g := by
    rw [List.mem_filter, beq_iff_eq, and_iff_right (mem_channels n)]
  rw [hasDuplicate_iff, groupChpris, List.nodup_map_iff_inj_on (nodup_channels.filter _)]
  simp only [hmem, not_forall]
  constructor
  · rintro ⟨i, hi, j, hj, hpri, hne⟩
    exact ⟨i, j, hne, hi, hj, hpri⟩
  · rintro ⟨i, j, hne, hi, hj, hpri⟩
    exact ⟨i, hi, j, hj, hpri, hne⟩

/-- Bit 4 of a channel number names its group (R201). -/
theorem getLsbD_four_eq_iff (i j : Chan) : i.getLsbD 4 = j.getLsbD 4 ↔ i.toNat / 16 = j.toNat / 16 := by
  revert i j; decide

/-- The check of the priorities is over the two groups, each channel with each other of its group (R141, R283). -/
theorem chpriCollision_iff (s : State) :
    chpriCollision s = true ↔
      ∃ i j : Chan, i ≠ j ∧ i.toNat / 16 = j.toNat / 16 ∧ (s.pri i).chpri = (s.pri j).chpri := by
  simp only [chpriCollision, Bool.or_eq_true, hasDuplicate_groupChpris_iff, ← getLsbD_four_eq_iff]
  constructor
  · rintro (⟨i, j, hne, hi, hj, hpri⟩ | ⟨i, j, hne, hi, hj, hpri⟩) <;> exact ⟨i, j, hne, hi.trans hj.symm, hpri⟩
  · rintro ⟨i, j, hne, hgroup, hpri⟩
    cases hj : j.getLsbD 4 with
    | false => exact .inl ⟨i, j, hne, hgroup.trans hj, hj, hpri⟩
    | true => exact .inr ⟨i, j, hne, hgroup.trans hj, hj, hpri⟩

/-- The kinds that the check of a slot reports, each by its own line of R141. -/
theorem mem_slotErrors_iff (t : Tcd) (k : ErrKind) :
    k ∈ slotErrors t ↔
      (k = .sae ∧ (5 < ssizeCode t ∨ t.saddr.toNat % ssize t ≠ 0)) ∨
      (k = .soe ∧ ssizeCode t ≤ 5 ∧ t.soff.toNat % ssize t ≠ 0) ∨
      (k = .dae ∧ (5 < dsizeCode t ∨ t.daddr.toNat % dsize t ≠ 0)) ∨
      (k = .doe ∧ dsizeCode t ≤ 5 ∧ t.doff.toNat % dsize t ≠ 0) ∨
      (k = .nce ∧ (nbytes t = 0 ∨ (ssizeCode t ≤ 5 ∧ (nbytes t).toNat % ssize t ≠ 0) ∨
        (dsizeCode t ≤ 5 ∧ (nbytes t).toNat % dsize t ≠ 0) ∨ count t.citer = 0 ∨
        t.citer.getLsbD 15 ≠ t.biter.getLsbD 15)) ∨
      (k = .sge ∧ csrEsg t = true ∧ t.dlastSga.toNat % 32 ≠ 0) := by
  simp only [slotErrors, List.mem_append, mem_kindIf, Bool.or_eq_true, Bool.and_eq_true, Bool.not_eq_true',
    decide_eq_false_iff_not, decide_eq_true_eq, multipleOf_eq_false_iff, beq_iff_eq, bne_iff_ne, Nat.not_le, or_assoc,
    and_comm (b := k = _)]
  rfl

/-- The kinds that the check of the priorities reports (R141, R283). -/
theorem mem_priorityErrors_iff (s : State) (k : ErrKind) :
    k ∈ priorityErrors s ↔
      (k = .gpe ∧ s.cr.grp0pri = s.cr.grp1pri) ∨
      (k = .cpe ∧ ∃ i j : Chan, i ≠ j ∧ i.toNat / 16 = j.toNat / 16 ∧ (s.pri i).chpri = (s.pri j).chpri) := by
  simp only [priorityErrors, List.mem_append, mem_kindIf, beq_iff_eq, chpriCollision_iff, and_comm (b := k = _)]

/-- Settles O32: a flag is reported by its own line of the check and by no other. -/
theorem configurationCheckFlags : Obligations.ConfigurationCheckFlags := by
  intro s c t
  simp only [confcheck, List.mem_append, mem_slotErrors_iff, mem_priorityErrors_iff, reduceCtorEq, true_and, false_and,
    or_false, false_or, not_false_eq_true, and_true, t]

/-! ### Activation (R140, R281, R291) -/

/-- The slot of the activated channel, but for its `CSR`. -/
theorem slot_markActive_self (c : Chan) (s : State) :
    (markActive c s).slot c = { s.slot c with csr := ((markActive c s).slot c).csr } := by
  rw [slot_markActive, if_pos rfl]
  rfl

/-- The `CSR` of the activated channel: `START` and `DONE` are 0, `ACTIVE` is 1 (R140). -/
theorem getLsbD_csr_markActive (c : Chan) (s : State) (i : Nat) :
    ((markActive c s).slot c).csr.getLsbD i =
      if i = 0 ∨ i = 7 then false else if i = 6 then true else (s.slot c).csr.getLsbD i := by
  rw [slot_markActive, if_pos rfl, getLsbD_csr_setActive, getLsbD_csr_setDone, getLsbD_csr_setStart]
  grind

theorem getLsbD_inprog_markActive (c m : Chan) (s : State) :
    (markActive c s).inprog.getLsbD m.toNat = if m = c then true else s.inprog.getLsbD m.toNat := by
  rw [markActive_eq]
  exact getLsbD_putBit_chan ..

theorem activate_of_passed {c : Chan} {s : State} (h : confcheck s c = []) :
    activate c s = { markActive c s with cur := some (startCtx c (s.slot c)) } := by
  rw [activate, confcheck_markActive, h]

theorem activate_of_failed {c : Chan} {s : State} (h : confcheck s c ≠ []) :
    activate c s = raiseChannelError c (confcheck s c) (markActive c s) := by
  rw [← confcheck_markActive] at h ⊢
  rcases activate_cases c s with ⟨hpassed, -⟩ | ⟨-, hfailed⟩
  · exact absurd hpassed h
  · exact hfailed

/-- Settles O33: what activation's flags are, bit by bit, and the context of R140. -/
theorem activationStartsMinorLoop : Obligations.ActivationStartsMinorLoop := by
  intro s c hpassed t
  have ht : t = { markActive c s with cur := some (startCtx c (s.slot c)) } := activate_of_passed hpassed
  rw [ht]
  refine ⟨rfl, slot_markActive_self c s, getLsbD_csr_markActive c s, fun m hm => ?_,
    fun m => getLsbD_inprog_markActive c m s, fun m => trg_markActive c m s, ?_, fun a => ?_⟩
  · exact (slot_markActive c m s).trans (if_neg hm)
  · rw [markActive_eq]
  · rw [markActive_mem]

/-- Settles O34: error capture (R288) of the state with activation's flags. -/
theorem activationFailureCapturesError : Obligations.ActivationFailureCapturesError := by
  intro s c hfailed t
  have ht : t = raiseChannelError c (confcheck s c) (markActive c s) := activate_of_failed hfailed
  rw [ht]
  refine ⟨rfl, rfl, fun m => ?_, fun m => ?_, ?_, fun i => ?_, fun m hm => ?_, fun m => trg_markActive c m s, ?_,
    markActive_trace c s, chstate_raiseChannelError .., ?_, fun a => ?_⟩
  · rw [markActive_eq]
    exact getLsbD_putBit_chan ..
  · refine (getLsbD_putBit_chan _ c m false).trans ?_
    rw [getLsbD_inprog_markActive]
    split <;> rfl
  · rw [slot_raiseChannelError_fields, slot_markActive_self]
  · rw [getLsbD_csr_raiseChannelError, getLsbD_csr_markActive]
    grind
  · rw [slot_raiseChannelError, if_neg hm, slot_markActive, if_neg hm]
  · rw [markActive_eq]
    rfl
  · rw [markActive_eq]
    rfl
  · rw [raiseChannelError_mem, markActive_mem]

/-! ### A run of bytes copied in memory (R80, R181) -/

theorem add_ofNat_add_ofNat (a : Addr) (m n : Nat) :
    a + BitVec.ofNat 32 m + BitVec.ofNat 32 n = a + BitVec.ofNat 32 (m + n) := by
  rw [BitVec.add_assoc, BitVec.ofNat_add]

/-- Two places less than one turn of the address space past an address are different (R7). -/
theorem toNat_add_ofNat_ne (a : Addr) {i j : Nat} (hij : i < j) (hj : j < 2 ^ 32) :
    (a + BitVec.ofNat 32 i).toNat ≠ (a + BitVec.ofNat 32 j).toNat := by
  have h := toNat_ne_toNat_add_ofNat (a + BitVec.ofNat 32 i) (i := j - i) (by omega) (by omega)
  rwa [add_ofNat_add_ofNat, Nat.add_sub_cancel' hij.le] at h

theorem getElem?_read (m : Memory) (a : Addr) {n i : Nat} (hi : i < n) :
    (m.read a n)[i]? = some (m.readByte (a + BitVec.ofNat 32 i).toNat) := by
  rw [read_eq_map, List.getElem?_map, List.getElem?_range hi, Option.map_some]

/-- Inside the destination the bytes of the source are read back. -/
theorem readByte_copy_of_inside (m : Memory) (src dst : Addr) {n i : Nat} (hm : m.wf = true) (hn : n ≤ 2 ^ 32)
    (hi : i < n) :
    (m.write dst (m.read src n)).readByte (dst + BitVec.ofNat 32 i).toNat =
      m.readByte (src + BitVec.ofNat 32 i).toNat := by
  have hback := read_write_same m dst (m.read src n) hm (by rwa [length_read])
  have hbyte := congrArg (·[i]?) hback
  simp only [length_read, getElem?_read _ _ hi] at hbyte
  exact Option.some.inj hbyte

/-- Outside the destination no byte changes. -/
theorem readByte_copy_of_outside (m : Memory) (src dst : Addr) (n k : Nat) (hm : m.wf = true)
    (hk : ∀ i < n, k ≠ (dst + BitVec.ofNat 32 i).toNat) :
    (m.write dst (m.read src n)).readByte k = m.readByte k :=
  readByte_write_of_outside m dst _ k hm (by rwa [length_read])

/-! ### One element of a plain copy (R151, R152, R181) -/

/-- The slot of a plain copy: elements of 1, 2 or 4 bytes on both sides, offsets equal to the size, no modulus. -/
structure CopySlot (t : Tcd) : Prop where
  narrow : ssizeCode t ≤ 2
  sizes : dsizeCode t = ssizeCode t
  soff : t.soff.toNat = ssize t
  doff : t.doff.toNat = ssize t
  smod : smod t = 0
  dmod : dmod t = 0

/-- A small offset is not negative: widening keeps its value (R117). -/
theorem signExtend_eq_ofNat {v : Half} {n : Nat} (hv : v.toNat = n) (hn : n ≤ 4) :
    v.signExtend 32 = BitVec.ofNat 32 n := by
  have hmsb : v.msb = false := by
    rw [BitVec.msb_eq_false_iff_two_mul_lt]
    omega
  rw [BitVec.signExtend_eq_setWidth_of_msb_false hmsb]
  exact BitVec.eq_of_toNat_eq (by simp [hv])

namespace CopySlot

variable {t : Tcd}

theorem ssize_le_four (h : CopySlot t) : ssize t ≤ 4 := Nat.pow_le_pow_right (by decide) h.narrow

theorem dsize_eq (h : CopySlot t) : dsize t = ssize t := congrArg (2 ^ ·) h.sizes

theorem seqBytes_eq (h : CopySlot t) : seqBytes t = ssize t := by rw [seqBytes, h.dsize_eq, Nat.max_self]

/-- An element is one access of its own size (R85). -/
theorem bytes_partWidth (h : CopySlot t) : (partWidth (ssize t)).bytes = ssize t :=
  (bytes_partWidth_two_pow _).trans (Nat.min_eq_left h.ssize_le_four)

theorem nextAddr_source (h : CopySlot t) (a : Addr) :
    nextAddr a (Machine.soff t) (Machine.smod t) = a + BitVec.ofNat 32 (ssize t) := by
  rw [nextAddr, if_pos h.smod, Machine.soff, signExtend_eq_ofNat h.soff h.ssize_le_four]

theorem nextAddr_destination (h : CopySlot t) (a : Addr) :
    nextAddr a (Machine.doff t) (Machine.dmod t) = a + BitVec.ofNat 32 (ssize t) := by
  rw [nextAddr, if_pos h.dmod, Machine.doff, signExtend_eq_ofNat h.doff h.ssize_le_four]

end CopySlot

/-- The context `x` with the element `b` read and waiting in the queue. -/
def withQueued (t : Tcd) (x : Ctx) (b : List Byte) : Ctx :=
  { x with fifo := b, sa := x.sa + BitVec.ofNat 32 (ssize t), wr := true }

/-- The context `x` with one element moved. -/
def withMoved (t : Tcd) (x : Ctx) : Ctx :=
  { x with
    sa := x.sa + BitVec.ofNat 32 (ssize t)
    da := x.da + BitVec.ofNat 32 (ssize t)
    rem := x.rem - BitVec.ofNat 32 (ssize t) }

theorem partRead_of_copySlot {t : Tcd} {x : Ctx} {b : List Byte} (h : CopySlot t) (hfifo : x.fifo = [])
    (hpart : x.part = .idle) (hlen : b.length = ssize t) : partRead t x b = withQueued t x b := by
  have hgot : x.part.got = [] := by rw [hpart]; rfl
  have hwhole : ¬ (x.part.got ++ b).length < ssize t := by simp [hgot, hlen]
  rw [partRead, if_neg hwhole, elementRead, h.nextAddr_source, h.seqBytes_eq]
  simp [withQueued, hgot, hfifo, hlen, ← hpart]

theorem put_withQueued {t : Tcd} {x : Ctx} {b : List Byte} (hpart : x.part = .idle) :
    (withQueued t x b).part.put = 0 := by
  rw [withQueued, hpart]
  rfl

theorem partBytes_withQueued {t : Tcd} {x : Ctx} {b : List Byte} (h : CopySlot t) (hpart : x.part = .idle)
    (hlen : b.length = ssize t) : partBytes t (withQueued t x b) = b := by
  have hput : (withQueued t x b).part.put = 0 := put_withQueued hpart
  rw [partBytes, hput, h.dsize_eq, h.bytes_partWidth, List.drop_zero, List.take_take, Nat.min_self, ← hlen]
  exact List.take_length

theorem partWritten_withQueued {t : Tcd} {x : Ctx} {b : List Byte} (h : CopySlot t) (hwr : x.wr = false)
    (hfifo : x.fifo = []) (hpart : x.part = .idle) (hlen : b.length = ssize t) :
    partWritten t (withQueued t x b) = withMoved t x := by
  have hput : (withQueued t x b).part.put = 0 := put_withQueued hpart
  have hwhole : ¬ (withQueued t x b).part.put + (partWidth (dsize t)).bytes < dsize t := by
    simp [hput, h.dsize_eq, h.bytes_partWidth]
  rw [partWritten, if_neg hwhole, elementWritten, h.nextAddr_destination, h.seqBytes_eq, h.dsize_eq]
  simp [withQueued, withMoved, ← hlen, hwr, hfifo, hpart]

/-- The conditions of the copy law (R181) with `k` elements left to move. -/
structure Copying (s : State) (x : Ctx) (k : Nat) : Prop where
  next : moverNext s
  wf : s.mem.wf = true
  cur : s.cur = some x
  ecp : (s.pri x.ch).ecp = false
  wr : x.wr = false
  fifo : x.fifo = []
  part : x.part = .idle
  slot : CopySlot (s.slot x.ch)
  left : x.rem.toNat = ssize (s.slot x.ch) * k
  inMemory : ∀ i < k,
    busResp s.platform (x.sa + BitVec.ofNat 32 (ssize (s.slot x.ch) * i)) (partWidth (ssize (s.slot x.ch))) .read =
        .memory ∧
      busResp s.platform (x.da + BitVec.ofNat 32 (ssize (s.slot x.ch) * i)) (partWidth (ssize (s.slot x.ch))) .write =
        .memory
  apart : ∀ i < ssize (s.slot x.ch) * k, ∀ j < ssize (s.slot x.ch) * k,
    x.sa + BitVec.ofNat 32 i ≠ x.da + BitVec.ofNat 32 j

/-- A channel whose `ECP` is 0 cannot be preempted (R210). -/
theorem preemptors_of_ecp {s : State} {e : Chan} (h : (s.pri e).ecp = false) : preemptors s e = [] := by
  simp [preemptors, h]

/-- The element at the source of the context `x`. -/
def sourceElement (s : State) (x : Ctx) : List Byte := s.mem.read x.sa (ssize (s.slot x.ch))

theorem length_sourceElement (s : State) (x : Ctx) : (sourceElement s x).length = ssize (s.slot x.ch) := length_read ..

/-- The state `s` with the element at the source of its context `x` in the queue. -/
def elementQueued (s : State) (x : Ctx) : State :=
  { s with
    trace := ⟨.read, x.sa, partWidth (ssize (s.slot x.ch)), sourceElement s x, true⟩ :: s.trace
    cur := some (withQueued (s.slot x.ch) x (sourceElement s x)) }

/-- The state `s` with the element at the source of its context `x` copied to the destination. -/
def elementCopied (s : State) (x : Ctx) : State :=
  { s with
    mem := s.mem.write x.da (sourceElement s x)
    trace := ⟨.write, x.da, partWidth (ssize (s.slot x.ch)), sourceElement s x, true⟩ :: (elementQueued s x).trace
    cur := some (withMoved (s.slot x.ch) x) }

namespace Copying

variable {s : State} {x : Ctx} {k : Nat}

theorem left_lt (h : Copying s x k) : ssize (s.slot x.ch) * k < 2 ^ 32 := h.left ▸ x.rem.isLt

theorem rem_ne_zero (h : Copying s x (k + 1)) : x.rem ≠ 0 := by
  have hpos : 0 < x.rem.toNat := h.left ▸ Nat.mul_pos (ssize_pos _) (Nat.succ_pos k)
  rintro hzero
  simp [hzero] at hpos

theorem inMemory_first (h : Copying s x (k + 1)) :
    busResp s.platform x.sa (partWidth (ssize (s.slot x.ch))) .read = .memory ∧
      busResp s.platform x.da (partWidth (ssize (s.slot x.ch))) .write = .memory := by
  simpa only [Nat.mul_zero, BitVec.add_zero] using h.inMemory 0 (Nat.succ_pos k)

/-- The first of the two steps of an element (R151). -/
theorem step_read (h : Copying s x (k + 1)) : step s = .next (elementQueued s x) := by
  have hplace : x.sa + BitVec.ofNat 32 x.part.got.length = x.sa := by rw [h.part]; simp [Part.got]
  obtain ⟨hread, -⟩ := h.inMemory_first
  rw [step_of_moverNext h.next, moverStep_of_reading h.cur h.wr h.rem_ne_zero (.inr (preemptors_of_ecp h.ecp)),
    readElement_of_done (by rw [hplace]; exact busRead_memory hread), h.slot.bytes_partWidth,
    ← sourceElement, partRead_of_copySlot h.slot h.fifo h.part (length_sourceElement s x)]
  rfl

/-- The second of the two steps of an element (R152). -/
theorem step_write (h : Copying s x (k + 1)) : step (elementQueued s x) = .next (elementCopied s x) := by
  obtain ⟨-, hwrite⟩ := h.inMemory_first
  have hlen := length_sourceElement s x
  have hslot : (elementQueued s x).slot (withQueued (s.slot x.ch) x (sourceElement s x)).ch = s.slot x.ch := rfl
  have hput : (withQueued (s.slot x.ch) x (sourceElement s x)).part.put = 0 := put_withQueued h.part
  rw [step_of_moverNext (s := elementQueued s x) h.next, moverStep_of_writing (s := elementQueued s x) rfl rfl,
    writeElement_of_done (by
      rw [hslot, hput, BitVec.add_zero, h.slot.dsize_eq, partBytes_withQueued h.slot h.part hlen]
      exact busWrite_memory hwrite),
    hslot, partWritten_withQueued h.slot h.wr h.fifo h.part hlen]
  rfl

/-- One element less is left, and the conditions hold for the rest. -/
theorem rest (h : Copying s x (k + 1)) : Copying (elementCopied s x) (withMoved (s.slot x.ch) x) k where
  next := h.next
  wf := wf_write _ _ _ h.wf
  cur := rfl
  ecp := h.ecp
  wr := h.wr
  fifo := h.fifo
  part := h.part
  slot := h.slot
  left := by
    have hleft := h.left
    have hlt := h.left_lt
    have hsize := h.slot.ssize_le_four
    rw [Nat.mul_succ] at hleft hlt
    change (x.rem - BitVec.ofNat 32 (ssize (s.slot x.ch))).toNat = ssize (s.slot x.ch) * k
    generalize ssize (s.slot x.ch) * k = n at hleft hlt
    rw [BitVec.toNat_sub, BitVec.toNat_ofNat, hleft]
    omega
  inMemory i hi := by
    have hplace (a : Addr) : a + BitVec.ofNat 32 (ssize (s.slot x.ch)) + BitVec.ofNat 32 (ssize (s.slot x.ch) * i) =
        a + BitVec.ofNat 32 (ssize (s.slot x.ch) * (i + 1)) := by
      rw [add_ofNat_add_ofNat, Nat.mul_succ, Nat.add_comm]
    have hrest := h.inMemory (i + 1) (Nat.succ_lt_succ hi)
    rw [← hplace, ← hplace] at hrest
    exact hrest
  apart i hi j hj := by
    have hi : i < ssize (s.slot x.ch) * k := hi
    have hj : j < ssize (s.slot x.ch) * k := hj
    have hrest := h.apart (ssize (s.slot x.ch) + i) (by rw [Nat.mul_succ]; omega) (ssize (s.slot x.ch) + j)
      (by rw [Nat.mul_succ]; omega)
    rw [← add_ofNat_add_ofNat, ← add_ofNat_add_ofNat] at hrest
    exact hrest

end Copying

/-- In `u` the `n` bytes from `dst` are those that `s` holds from `src`, and every other byte is as in `s`. -/
def CopiedBytes (s u : State) (src dst : Addr) (n : Nat) : Prop :=
  (∀ i < n, u.mem.readByte (dst + BitVec.ofNat 32 i).toNat = s.mem.readByte (src + BitVec.ofNat 32 i).toNat) ∧
  (∀ a, (∀ i < n, a ≠ (dst + BitVec.ofNat 32 i).toNat) → u.mem.readByte a = s.mem.readByte a)

/-- A run that was copied after the run before it is one longer run: the ranges do not overlap, so that the first copy
changes no byte of the second one's source, and the second none of the first one's destination. -/
theorem CopiedBytes.append {s t u : State} {src dst : Addr} {m n : Nat} (hfirst : CopiedBytes s t src dst m)
    (hsecond : CopiedBytes t u (src + BitVec.ofNat 32 m) (dst + BitVec.ofNat 32 m) n) (hlen : m + n < 2 ^ 32)
    (hapart : ∀ i < m + n, ∀ j < m + n, src + BitVec.ofNat 32 i ≠ dst + BitVec.ofNat 32 j) :
    CopiedBytes s u src dst (m + n) := by
  obtain ⟨hinside, houtside⟩ := hfirst
  obtain ⟨hinside', houtside'⟩ := hsecond
  simp only [add_ofNat_add_ofNat] at hinside' houtside'
  refine ⟨fun i hi => ?_, fun a ha => ?_⟩
  · by_cases him : i < m
    · rw [houtside' _ fun j hj => toNat_add_ofNat_ne dst (by omega) (by omega), hinside i him]
    · obtain ⟨j, rfl⟩ := Nat.exists_eq_add_of_le (Nat.le_of_not_lt him)
      rw [hinside' j (by omega), houtside]
      exact fun i' hi' heq => hapart _ hi i' (by omega) (BitVec.eq_of_toNat_eq heq)
  · rw [houtside' a fun i hi => ha (m + i) (by omega), houtside a fun i hi => ha i (by omega)]

theorem Copying.copiedBytes {s : State} {x : Ctx} {k : Nat} (h : Copying s x k) :
    CopiedBytes s (elementCopied s x) x.sa x.da (ssize (s.slot x.ch)) :=
  have hsize := h.slot.ssize_le_four
  ⟨fun _ hi => readByte_copy_of_inside s.mem x.sa x.da h.wf (by omega) hi,
    fun a ha => readByte_copy_of_outside s.mem x.sa x.da _ a h.wf ha⟩

theorem run_two_steps {s t u : State} (n : Nat) (hst : step s = .next t) (htu : step t = .next u) :
    Sys2Proof.core.run (n + 2) s = Sys2Proof.core.run n u := by
  have hone {a b : State} (m : Nat) (hab : step a = .next b) : Sys2Proof.core.run (m + 1) a = Sys2Proof.core.run m b := by
    simp only [Host.Core.run, show Sys2Proof.core.step a = .next b from hab]
  rw [hone (n + 1) hst, hone n htu]

/-- The copy law (R181), by induction on the elements left: two steps move the first one. -/
theorem Copying.run {s : State} {x : Ctx} {k : Nat} (h : Copying s x k) :
    ∃ u, Sys2Proof.core.run (2 * k) s = .next u ∧ CopiedBytes s u x.sa x.da (ssize (s.slot x.ch) * k) ∧
      ∃ y, u.cur = some y ∧ y.rem = 0 ∧ y.wr = false := by
  induction k generalizing s x with
  | zero =>
    have hrem : x.rem = 0 := BitVec.eq_of_toNat_eq (by simpa using h.left)
    exact ⟨s, rfl, ⟨by simp, fun _ _ => rfl⟩, x, h.cur, hrem, h.wr⟩
  | succ k ih =>
    obtain ⟨u, hrun, hrest, hend⟩ := ih h.rest
    have hrest : CopiedBytes (elementCopied s x) u (x.sa + BitVec.ofNat 32 (ssize (s.slot x.ch)))
        (x.da + BitVec.ofNat 32 (ssize (s.slot x.ch))) (ssize (s.slot x.ch) * k) := hrest
    have hsize : ssize (s.slot x.ch) * (k + 1) = ssize (s.slot x.ch) + ssize (s.slot x.ch) * k := by
      rw [Nat.mul_succ, Nat.add_comm]
    have hlen := h.left_lt
    have hapart := h.apart
    rw [hsize] at hlen hapart ⊢
    exact ⟨u, (run_two_steps (2 * k) h.step_read h.step_write).trans hrun, h.copiedBytes.append hrest hlen hapart, hend⟩

/-- Settles O38: its hypotheses are the conditions of the copy law. -/
theorem minorLoopCopiesMemory : Obligations.MinorLoopCopiesMemory := by
  intro s x k hnext hwf hcur hecp hwr hfifo hpart t z hnarrow hsizes hsoff hdoff hsmod hdmod hleft hmem hapart
  have hcopy : Copying s x k :=
    { next := hnext, wf := hwf, cur := hcur, ecp := hecp, wr := hwr, fifo := hfifo, part := hpart,
      slot := ⟨hnarrow, hsizes, hsoff, hdoff, hsmod, hdmod⟩, left := hleft, inMemory := hmem, apart := hapart }
  obtain ⟨u, hrun, ⟨hinside, houtside⟩, hend⟩ := hcopy.run
  exact ⟨u, hrun, hinside, houtside, hend⟩

/-! ### The commit of a major loop (R170, R171, R174, R175) -/

/-- The slot of the channel itself, but for its `CSR`. -/
theorem slot_majorCommit_self (x : Ctx) (s : State) :
    (majorCommit x s).slot x.ch =
      { s.slot x.ch with
        saddr := x.sa + (s.slot x.ch).slast
        daddr := if csrEsg (s.slot x.ch) then x.da else x.da + (s.slot x.ch).dlastSga
        citer := (s.slot x.ch).biter
        csr := ((majorCommit x s).slot x.ch).csr } := by
  rw [slot_majorCommit, if_pos rfl]
  simp only
  split <;> rfl

/-- Of any other slot at most `CSR` changes (R171). -/
theorem slot_majorCommit_of_ne (x : Ctx) (s : State) {m : Chan} (hm : m ≠ x.ch) :
    (majorCommit x s).slot m = { s.slot m with csr := ((majorCommit x s).slot m).csr } := by
  rw [slot_majorCommit, if_neg hm]
  simp only
  split <;> rfl

theorem getLsbD_csr_slotAfterMajor (x : Ctx) (t : Tcd) (i : Nat) :
    (slotAfterMajor x t).csr.getLsbD i = if i = 6 then false else if i = 7 then true else t.csr.getLsbD i := by
  rw [slotAfterMajor, getLsbD_csr_setDone, getLsbD_csr_setActive]
  by_cases h : i = 7
  · simp [h]
  · simp only [h, if_false]

/-- Every bit of every `CSR`: `START` of the linked channel, and `ACTIVE` and `DONE` of the channel itself. -/
theorem getLsbD_csr_majorCommit (x : Ctx) (s : State) (m : Chan) (i : Nat) :
    ((majorCommit x s).slot m).csr.getLsbD i =
      if i = 0 ∧ csrMajorElink (s.slot x.ch) = true ∧ m = csrMajorLinkCh (s.slot x.ch) then true
      else if i = 6 ∧ m = x.ch then false else if i = 7 ∧ m = x.ch then true else (s.slot m).csr.getLsbD i := by
  have hown : (if m = x.ch then slotAfterMajor x (s.slot x.ch) else s.slot m).csr.getLsbD i =
      if i = 6 ∧ m = x.ch then false else if i = 7 ∧ m = x.ch then true else (s.slot m).csr.getLsbD i := by
    by_cases hm : m = x.ch
    · simp [hm, getLsbD_csr_slotAfterMajor]
    · simp [hm]
  rw [slot_majorCommit]
  simp only
  by_cases hlink : csrMajorElink (s.slot x.ch) = true ∧ m = csrMajorLinkCh (s.slot x.ch)
  · rw [if_pos hlink, getLsbD_csr_setStart, hown]
    simp only [hlink, and_true]
  · rw [if_neg hlink, hown, if_neg (c := i = 0 ∧ _) fun h => hlink h.2]

/-- Every interrupt latch: the channel's own under `INTMAJOR`. -/
theorem getLsbD_int_majorCommit (x : Ctx) (s : State) (m : Chan) :
    (majorCommit x s).int.getLsbD m.toNat =
      if m = x.ch ∧ csrIntMajor (s.slot x.ch) = true then true else s.int.getLsbD m.toNat := by
  rw [majorCommit_eq]
  cases csrIntMajor (s.slot x.ch) with
  | false => simp
  | true => simp only [if_true, and_true, getLsbD_putBit_chan]

/-- Every request enable: the channel's own is cleared under `DREQ`. -/
theorem getLsbD_erq_majorCommit (x : Ctx) (s : State) (m : Chan) :
    (majorCommit x s).erq.getLsbD m.toNat =
      if m = x.ch ∧ csrDreq (s.slot x.ch) = true then false else s.erq.getLsbD m.toNat := by
  rw [majorCommit_eq]
  cases csrDreq (s.slot x.ch) with
  | false => simp
  | true => simp only [if_true, and_true, getLsbD_putBit_chan]

@[simp] theorem majorCommit_cr (x : Ctx) (s : State) : (majorCommit x s).cr = s.cr := by rw [majorCommit_eq]
@[simp] theorem majorCommit_err (x : Ctx) (s : State) : (majorCommit x s).err = s.err := by rw [majorCommit_eq]
@[simp] theorem majorCommit_inprog (x : Ctx) (s : State) : (majorCommit x s).inprog = s.inprog := by rw [majorCommit_eq]
@[simp] theorem majorCommit_mem (x : Ctx) (s : State) : (majorCommit x s).mem = s.mem := by rw [majorCommit_eq]

/-! ### The step that ends a major loop (R160, R170, R172) -/

section
variable {s : State} {x : Ctx}

theorem moverStep_of_majorEnd (hcur : s.cur = some x) (hwr : x.wr = false) (hrem : x.rem = 0)
    (hlast : newCount (s.slot x.ch) = 0) (hesg : csrEsg (s.slot x.ch) = false) :
    moverStep s = .next (majorDone x s) := by
  simp [moverStep, hcur, hwr, hrem, completion, hlast, hesg]

theorem moverStep_of_linkedEnd (hcur : s.cur = some x) (hwr : x.wr = false) (hrem : x.rem = 0)
    (hlast : newCount (s.slot x.ch) = 0) (hesg : csrEsg (s.slot x.ch) = true) : moverStep s = majorLinked x s := by
  simp [moverStep, hcur, hwr, hrem, completion, hlast, hesg]

theorem majorLinked_of_loaded {got : List Byte} (hpart : x.part = .loading got) (hgot : got.length = 32) :
    majorLinked x s = .next (majorDoneLoad x got s) := by
  simp [majorLinked, hpart, hgot]

theorem majorLinked_of_loadFailed (hpart : x.part = .loadFailed) :
    majorLinked x s = .next (majorDoneFailed x s) := by
  simp [majorLinked, hpart]

end

/-- The state that a major loop without a next descriptor ends in, with no cancel pending (R170). -/
def majorEnd (x : Ctx) (s : State) : State :=
  { majorCommit x s with inprog := putBit s.inprog x.ch.toNat false, cur := none }

theorem majorDone_of_no_cancel {x : Ctx} {s : State} (hcx : s.cr.cx = false) (hecx : s.cr.ecx = false) :
    majorDone x s = majorEnd x s := by
  rw [majorDone, retire_of_no_cancel (by simpa using hcx) (by simpa using hecx), majorCommit_inprog, majorEnd]

/-- The state that a major loop with the next descriptor `d` ends in, with no cancel pending (R172). -/
def linkedEnd (x : Ctx) (d : Tcd) (s : State) : State :=
  { (majorCommit x s).setSlot x.ch (slotImage d) with cur := none }

theorem majorDoneLoad_of_no_cancel {x : Ctx} {image : List Byte} {s : State} (hcx : s.cr.cx = false)
    (hecx : s.cr.ecx = false) : majorDoneLoad x image s = linkedEnd x (tcdOfBytes image) s :=
  retire_of_no_cancel (by simpa using hcx) (by simpa using hecx)

/-- A channel with no error latched, no chain in progress, `ACTIVE` 0 and `DONE` 1 is `Done` (R220). -/
theorem chstate_of_done {s : State} {n : Chan} (herr : s.err.getLsbD n.toNat = false)
    (hactive : csrActive (s.slot n) = false) (hinprog : s.inprog.getLsbD n.toNat = false)
    (hdone : csrDone (s.slot n) = true) : chstate s n = .done := by
  simp only [chstate, herr, hactive, hinprog, hdone, Bool.or_false, Bool.false_eq_true, if_false, if_true]

theorem slot_majorEnd (x : Ctx) (s : State) (m : Chan) : (majorEnd x s).slot m = (majorCommit x s).slot m := rfl

theorem chstate_majorEnd {x : Ctx} {s : State} (herr : s.err.getLsbD x.ch.toNat = false) :
    chstate (majorEnd x s) x.ch = .done := by
  have hcsr (i : Nat) := getLsbD_csr_majorCommit x s x.ch i
  refine chstate_of_done ?_ ?_ ((getLsbD_putBit_chan ..).trans (if_pos rfl)) ?_
  · exact (congrArg (BitVec.getLsbD · _) (majorCommit_err x s)).trans herr
  · rw [slot_majorEnd, csrActive, hcsr]
    simp
  · rw [slot_majorEnd, csrDone, hcsr]
    simp

/-- Settles O40: the step is `major_done`, of which every slot, every `CSR` bit, every latch and the frame are known. -/
theorem majorLoopCompletion : Obligations.MajorLoopCompletion := by
  intro s x hnext hcur hwr hrem hcx hecx o hlast hesg
  have hstep : step s = .next (majorEnd x s) := by
    rw [step_of_moverNext hnext, moverStep_of_majorEnd hcur hwr hrem hlast hesg,
      majorDone_of_no_cancel hcx hecx]
  refine ⟨majorEnd x s, hstep, ?_, fun m hm => slot_majorCommit_of_ne x s hm, getLsbD_csr_majorCommit x s,
    getLsbD_int_majorCommit x s, getLsbD_erq_majorCommit x s, fun m => getLsbD_putBit_chan .., chstate_majorEnd, ?_,
    fun a => ?_⟩
  · rw [slot_majorEnd, slot_majorCommit_self, if_neg (by simp [o, hesg])]
  · rw [majorEnd, majorCommit_eq]
  · exact congrArg (Memory.readByte · a) (majorCommit_mem x s)

/-! ### Scatter/gather: the image replaces the slot, or the read is refused (R172, R300) -/

theorem slot_linkedEnd (x : Ctx) (d : Tcd) (s : State) (m : Chan) :
    (linkedEnd x d s).slot m = if m = x.ch then slotImage d else (majorCommit x s).slot m := slot_setSlot ..

/-- Settles O42: the commit's effects on the other slots and the latches stay, and the channel's slot is the image. -/
theorem scatterGatherReplacesSlot : Obligations.ScatterGatherReplacesSlot := by
  intro s x got hnext hcur hwr hrem hcx hecx o d hlast hesg hpart hgot
  have hstep : step s = .next (linkedEnd x d s) := by
    rw [step_of_moverNext hnext, moverStep_of_linkedEnd hcur hwr hrem hlast hesg, majorLinked_of_loaded hpart hgot,
      majorDoneLoad_of_no_cancel hcx hecx]
  have hself : (linkedEnd x d s).slot x.ch = slotImage d := (slot_linkedEnd ..).trans (if_pos rfl)
  have hother {m : Chan} (hm : m ≠ x.ch) : (linkedEnd x d s).slot m = (majorCommit x s).slot m :=
    (slot_linkedEnd ..).trans (if_neg hm)
  refine ⟨linkedEnd x d s, hstep, ?_, fun i => ?_, fun m hm => ?_, fun m i hm => ?_, getLsbD_int_majorCommit x s,
    getLsbD_erq_majorCommit x s, ?_, fun a => ?_⟩
  · rw [hself, slotImage]
  · simp only [hself, getLsbD_csr_slotImage, or_comm]
  · rw [hother hm, ← slot_majorCommit_of_ne x s hm]
  · rw [hother hm, getLsbD_csr_majorCommit]
    simp only [hm, and_false, if_false, o]
  · rw [linkedEnd, majorCommit_eq]
    rfl
  · exact congrArg (Memory.readByte · a) (majorCommit_mem x s)

/-- Settles O43: `SBE` is captured (R288) on the state after the commit. -/
theorem scatterGatherFailureKeepsCommit : Obligations.ScatterGatherFailureKeepsCommit := by
  intro s x hnext hcur hwr hrem o hlast hesg hpart
  have hstep : step s = .next (raiseChannelError x.ch [.sbe] (majorCommit x s)) := by
    rw [step_of_moverNext hnext, moverStep_of_linkedEnd hcur hwr hrem hlast hesg, majorLinked_of_loadFailed hpart,
      majorDoneFailed]
  refine ⟨_, hstep, ?_, fun m hm => ?_, fun m i => ?_, getLsbD_int_majorCommit x s, getLsbD_erq_majorCommit x s,
    fun m => ?_, fun m => ?_, esErrChn_raiseChannelError .., fun i hi hfield => ?_, chstate_raiseChannelError .., ?_,
    fun a => ?_⟩
  · rw [slot_raiseChannelError_fields, slot_majorCommit_self, if_pos hesg]
  · rw [slot_raiseChannelError, if_neg hm, ← slot_majorCommit_of_ne x s hm]
  · rw [getLsbD_csr_raiseChannelError, getLsbD_csr_majorCommit]
    by_cases h6 : i = 6 ∧ m = x.ch
    · simp [h6]
    · simp only [h6, if_false, o]
  · rw [raiseChannelError_err, majorCommit_err, getLsbD_putBit_chan]
  · rw [raiseChannelError_inprog, majorCommit_inprog, getLsbD_putBit_chan]
  · rw [Bool.eq_iff_iff, raiseChannelError_es, getLsbD_errRecord _ _ hi hfield]
    simp [ErrKind.code, eq_comm]
  · rw [majorCommit_eq]
    rfl
  · rw [raiseChannelError_mem, majorCommit_mem]

end Sys2Proof.Machine

/-! PROOF. Router and arbiter (41_router_arbiter.md): the router's output (O27), the commands that write the requests
(O8, O10), priorities (O29), arbitration (O30), and preemption and resume (O45, O46). -/

namespace Sys2Proof.Machine

open Sys2Proof.Safety

/-! ### The router's output (R191) -/

/-- The request that the router selects for a channel, before the trigger latch (R191, `base`). -/
def routedLevel (s : State) (n : Chan) : Bool :=
  if (s.cfg n).aOn then true else if (s.cfg n).source = 0 then false
  else s.srcline.getLsbD (s.cfg n).source.toNat

/-- A channel waits for its trigger latch: it has one and is in trigger mode (R191). -/
def triggerMode (s : State) (n : Chan) : Bool := n.toNat < 4 && (s.cfg n).trig

theorem routedLevel_iff (s : State) (n : Chan) :
    routedLevel s n = true ↔
      (s.cfg n).aOn = true ∨ (s.cfg n).source ≠ 0 ∧ s.srcline.getLsbD (s.cfg n).source.toNat = true := by
  unfold routedLevel
  split
  · next haOn => simp [haOn]
  · next haOn => split <;> simp_all

theorem rout_eq (s : State) (n : Chan) :
    rout s n = ((s.cfg n).enbl && routedLevel s n && (!triggerMode s n || s.trg.getLsbD n.toNat)) := by
  have hrout : rout s n = if !(s.cfg n).enbl then false
      else if triggerMode s n then routedLevel s n && s.trg.getLsbD n.toNat else routedLevel s n := rfl
  rw [hrout]
  cases (s.cfg n).enbl <;> cases triggerMode s n <;> simp

/-- Settles O27: the output is the conjunction of `ENBL`, the selected request and, in trigger mode, the latch. -/
theorem routerOutput : Obligations.RouterOutput := by
  intro s n
  have hlatch : (!triggerMode s n || s.trg.getLsbD n.toNat) = true ↔
      (n.toNat < 4 → (s.cfg n).trig = true → s.trg.getLsbD n.toNat = true) := by
    rw [Bool.or_eq_true, Bool.not_eq_true', ← Bool.not_eq_true, ← imp_iff_not_or]
    simp [triggerMode]
  rw [rout_eq, Bool.and_eq_true, Bool.and_eq_true, routedLevel_iff, hlatch, and_assoc]

/-! ### The states of a channel between its services (R220, R221) -/

/-- Nothing of a service is left on channel `n` and none is started: its state is that of its request alone (R220). -/
structure Resting (s : State) (n : Chan) : Prop where
  err : s.err.getLsbD n.toNat = false
  active : csrActive (s.slot n) = false
  inprog : s.inprog.getLsbD n.toNat = false
  done : csrDone (s.slot n) = false
  start : csrStart (s.slot n) = false

theorem Resting.chstate_eq {s : State} {n : Chan} (h : Resting s n) :
    chstate s n =
      if s.erq.getLsbD n.toNat then (if rout s n then .triggered else .enabled)
      else if (s.cfg n).enbl then .bound else .free := by
  cases herq : s.erq.getLsbD n.toNat <;>
    simp [chstate, hwRequest, h.err, h.active, h.inprog, h.done, h.start, herq]

/-- The flags of a service come before the request in R220: an enabled or bound channel has none of them. -/
theorem resting_of_chstate {s : State} {n : Chan} (h : chstate s n = .enabled ∨ chstate s n = .bound) :
    Resting s n := by
  have hflags : ¬ s.err.getLsbD n.toNat = true ∧ ¬ (csrActive (s.slot n) || s.inprog.getLsbD n.toNat) = true ∧
      ¬ csrDone (s.slot n) = true ∧ ¬ (csrStart (s.slot n) || hwRequest s n) = true := by
    unfold chstate at h
    split_ifs at h with herr hrun hdone htrig
    iterate 4 exact absurd h (by decide)
    all_goals exact ⟨herr, hrun, hdone, htrig⟩
  simp only [Bool.or_eq_true, not_or, Bool.not_eq_true] at hflags
  obtain ⟨herr, ⟨hactive, hinprog⟩, hdone, hstart, -⟩ := hflags
  exact ⟨herr, hactive, hinprog, hdone, hstart⟩

/-! ### `CERQ` and `SERQ` (R253, R254) -/

/-- A write of `ERQ` leaves a resting channel resting. -/
theorem Resting.of_erq_write {s : State} {n : Chan} (h : Resting s n) (v : Word) :
    Resting ({ s with erq := v } : State).ack n :=
  ⟨h.err, h.active, h.inprog, h.done, h.start⟩

theorem clearBits_selAll (r : Word) : clearBits r selAll = 0 := by simp [clearBits, selAll]

theorem getLsbD_setBits_selOne (r : Word) (n m : Chan) :
    (setBits r (selOne n)).getLsbD m.toNat = if m = n then true else r.getLsbD m.toNat := by
  rw [getLsbD_setBits, getLsbD_selOne]
  by_cases h : m = n <;> simp [h]

theorem getLsbD_setBits_selAll (r : Word) (n : Chan) : (setBits r selAll).getLsbD n.toNat = true := by
  rw [getLsbD_setBits, getLsbD_selAll, Bool.or_true]

/-- An enabled channel that is bound leaves `Enabled` for `Bound` when its request is disabled (R221). -/
theorem chstate_clearErq {s : State} {n : Chan} (h : chstate s n = .enabled) (hcfg : (s.cfg n).enbl = true) :
    chstate (s.clearErq (selOne n)).ack n = .bound := by
  have hrest : Resting (s.clearErq (selOne n)).ack n := (resting_of_chstate (.inl h)).of_erq_write _
  have herq : (s.clearErq (selOne n)).ack.erq.getLsbD n.toNat = false :=
    (getLsbD_clearBits_selOne ..).trans (if_pos rfl)
  have hcfg' : ((s.clearErq (selOne n)).ack.cfg n).enbl = true := hcfg
  simp only [hrest.chstate_eq, herq, hcfg', Bool.false_eq_true, if_false, if_true]

/-- A bound channel becomes `Enabled`, or `Triggered` when the router already requests for it (R221). -/
theorem chstate_setErq {s : State} {n : Chan} (h : chstate s n = .bound) :
    chstate (s.setErq (selOne n)).ack n = if rout s n then .triggered else .enabled := by
  have hrest : Resting (s.setErq (selOne n)).ack n := (resting_of_chstate (.inr h)).of_erq_write _
  have herq : (s.setErq (selOne n)).ack.erq.getLsbD n.toNat = true :=
    (getLsbD_setBits_selOne ..).trans (if_pos rfl)
  rw [hrest.chstate_eq, if_pos herq]
  rfl

/-- Settles O8: the commands write `ERQ` alone, and a resting channel's state follows from its request. -/
theorem cerqSerqWriteRequestEnable : Obligations.CerqSerqWriteRequestEnable := by
  refine ⟨fun s ch => ?_, fun s => ?_, rfl, fun s ch => ?_, fun s => ?_, rfl, rfl⟩
  · exact ⟨_, rfl, getLsbD_clearBits_selOne s.erq ch, chstate_clearErq, rfl, fun _ => rfl⟩
  · exact ⟨_, rfl, clearBits_selAll s.erq, rfl, fun _ => rfl⟩
  · exact ⟨_, rfl, getLsbD_setBits_selOne s.erq ch, chstate_setErq, rfl, fun _ => rfl⟩
  · exact ⟨_, rfl, getLsbD_setBits_selAll s.erq, rfl, fun _ => rfl⟩

/-! ### `SSRT` (R200, R250, R256) -/

theorem slot_startSlots (s : State) (sel : Word) (n : Chan) :
    (s.startSlots sel).ack.slot n = if sel.getLsbD n.toNat then setStart (s.slot n) true else s.slot n :=
  slot_overSlots s sel (setStart · true) n

/-- `SSRT` writes no field of a slot but `CSR`. -/
theorem slot_startSlots_fields (s : State) (sel : Word) (n : Chan) :
    (s.startSlots sel).ack.slot n = { s.slot n with csr := ((s.startSlots sel).ack.slot n).csr } := by
  rw [slot_startSlots]
  split <;> rfl

theorem getLsbD_csr_startSlots (s : State) (sel : Word) (n : Chan) (i : Nat) :
    ((s.startSlots sel).ack.slot n).csr.getLsbD i =
      if sel.getLsbD n.toNat = true ∧ i = 0 then true else (s.slot n).csr.getLsbD i := by
  rw [slot_startSlots]
  by_cases hsel : sel.getLsbD n.toNat = true
  · simp only [hsel, if_true, true_and, getLsbD_csr_setStart]
  · rw [if_neg hsel, if_neg fun h => hsel h.1]

/-- `START` alone makes a channel that does not execute request (R200). -/
theorem req_of_start {s : State} {n : Chan} (hidle : csrActive (s.slot n) = false)
    (hstart : csrStart (s.slot n) = true) : req s n = true := by
  simp [req, hidle, hstart]

theorem req_startSlots {s : State} {sel : Word} {n : Chan} (hsel : sel.getLsbD n.toNat = true)
    (hidle : csrActive (s.slot n) = false) : req (s.startSlots sel).ack n = true := by
  have hslot : (s.startSlots sel).ack.slot n = setStart (s.slot n) true := (slot_startSlots ..).trans (if_pos hsel)
  exact req_of_start (by rw [hslot, csrActive_setStart, hidle]) (by rw [hslot, csrStart_setStart])

/-- Settles O10: bit 0 of the selected slots is written and no other, and it is read by `req` at once. -/
theorem ssrtSetsStart : Obligations.SsrtSetsStart := by
  refine ⟨fun s ch => ?_, fun s => ?_⟩
  · refine ⟨_, rfl, slot_startSlots_fields s (selOne ch), fun n i => ?_, req_startSlots (by simp), rfl, fun _ => rfl⟩
    simpa using getLsbD_csr_startSlots s (selOne ch) n i
  · refine ⟨_, rfl, slot_startSlots_fields s selAll, fun n i => ?_, fun _ => req_startSlots (by simp), rfl,
      fun _ => rfl⟩
    simpa using getLsbD_csr_startSlots s selAll n i

/-! ### Priorities (R201) -/

/-- Priorities compare as pairs, the group first: `CHPRI` is below 16. -/
theorem prio_lt_iff (s : State) (n m : Chan) :
    prio s n < prio s m ↔
      (groupPri s n = false ∧ groupPri s m = true) ∨
      (groupPri s n = groupPri s m ∧ (s.pri n).chpri.toNat < (s.pri m).chpri.toNat) := by
  have hn : (s.pri n).chpri.toNat < 16 := (s.pri n).chpri.isLt
  have hm : (s.pri m).chpri.toNat < 16 := (s.pri m).chpri.isLt
  unfold prio
  cases groupPri s n <;> cases groupPri s m <;> simp <;> omega

/-- Equal priorities are equal in the group's part and in the channel's. -/
theorem prio_eq_iff (s : State) (n m : Chan) :
    prio s n = prio s m ↔ groupPri s n = groupPri s m ∧ (s.pri n).chpri = (s.pri m).chpri := by
  have hn : (s.pri n).chpri.toNat < 16 := (s.pri n).chpri.isLt
  have hm : (s.pri m).chpri.toNat < 16 := (s.pri m).chpri.isLt
  rw [← BitVec.toNat_inj]
  unfold prio
  cases groupPri s n <;> cases groupPri s m <;> simp <;> omega

/-- With different group priorities, channels of equal group priority are of one group. -/
theorem group_eq_of_groupPri_eq {s : State} {n m : Chan} (hgpe : s.cr.grp0pri ≠ s.cr.grp1pri)
    (h : groupPri s n = groupPri s m) : n.toNat / 16 = m.toNat / 16 := by
  rw [← getLsbD_four_eq_iff]
  unfold groupPri at h
  cases hn : n.getLsbD 4 <;> cases hm : m.getLsbD 4 <;>
    simp only [hn, hm, if_true, if_false, Bool.false_eq_true] at h
  · rfl
  · exact absurd h hgpe
  · exact absurd h.symm hgpe
  · rfl

/-- With no priority error no two channels have the same priority (R201, R283). -/
theorem prio_injective_of_legal {s : State} {n m : Chan} (hlegal : priorityErrors s = [])
    (h : prio s n = prio s m) : n = m := by
  have hnone (k : ErrKind) : k ∉ priorityErrors s := hlegal ▸ List.not_mem_nil
  obtain ⟨hgroup, hchpri⟩ := (prio_eq_iff s n m).1 h
  have hgpe : s.cr.grp0pri ≠ s.cr.grp1pri := fun heq => hnone .gpe ((mem_priorityErrors_iff s _).2 (.inl ⟨rfl, heq⟩))
  by_contra hne
  exact hnone .cpe ((mem_priorityErrors_iff s _).2
    (.inr ⟨rfl, n, m, hne, group_eq_of_groupPri_eq hgpe hgroup, hchpri⟩))

/-- At reset a channel's priority is its number (R70, R201). -/
theorem prio_reset (n : Chan) : prio State.reset n = n.toNat := by
  have hgroup : groupPri State.reset n = n.getLsbD 4 := by
    unfold groupPri
    cases n.getLsbD 4 <;> rfl
  have hnumber : 16 * (n.getLsbD 4).toNat + n.toNat % 16 = n.toNat := by revert n; decide
  rw [prio, hgroup, pri_reset, ChPri.atReset, BitVec.toNat_ofNat, hnumber]

/-- Settles O29: the order is that of the pairs, and at reset that of the channel numbers. -/
theorem priorityOrder : Obligations.PriorityOrder := by
  refine ⟨prio_lt_iff, fun _ _ _ => prio_injective_of_legal, fun n hn => ?_, fun n hn => ?_⟩ <;>
    rw [prio_reset, prio_reset]
  · exact Nat.pos_of_ne_zero fun h => hn (BitVec.toNat_inj.1 h)
  · have hne : n.toNat ≠ (31 : Chan).toNat := fun h => hn (BitVec.toNat_inj.1 h)
    have hlt := chan_lt n
    simp at hne ⊢
    omega

/-! ### Arbitration (R202, R203) -/

/-- From a list with a member a channel of greatest priority is chosen, with at most one draw. -/
theorem choose_of_mem {s : State} {l : List Chan} {n : Chan} (h : n ∈ l) :
    ∃ w s', choose s l = some (w, s') ∧ w ∈ l ∧ (∀ m ∈ l, prio s m ≤ prio s w) ∧ (s' = s ∨ s' = s.drawn) := by
  obtain ⟨⟨w, s'⟩, hchoose⟩ := Option.ne_none_iff_exists'.1 fun hnone =>
    List.ne_nil_of_mem h (choose_none (s := s).1 hnone)
  exact ⟨w, s', hchoose, choose_some hchoose⟩

theorem mem_requesters {s : State} {n : Chan} : n ∈ requesters s ↔ req s n = true := by simp [requesters]

/-- Settles O30: the arbiter's choice is from the requesting channels, of which there is one. -/
theorem arbitrationActivatesHighest : Obligations.ArbitrationActivatesHighest := by
  intro s n hnext hcur hsusp hreq
  obtain ⟨w, s', hchoose, hmem, hmax, hdraw⟩ := choose_of_mem (mem_requesters.2 hreq)
  refine ⟨w, s', mem_requesters.1 hmem, fun m hm => hmax m (mem_requesters.2 hm), hdraw, ?_⟩
  simp only [step_of_moverNext hnext, moverStep, hcur, hsusp, arbitrate, hchoose]

/-! ### Preemption and resume (R205, R210, R211) -/

/-- R210's condition on the state, but for the preempting channel: none is suspended, no cancel is pending and the
executing channel may be preempted. -/
structure Preemptible (s : State) (e : Chan) : Prop where
  susp : s.susp = none
  cx : s.cr.cx = false
  ecx : s.cr.ecx = false
  ecp : (s.pri e).ecp = true

theorem mem_preemptors_iff {s : State} {e h : Chan} :
    h ∈ preemptors s e ↔
      Preemptible s e ∧ req s h = true ∧ (s.pri h).dpa = false ∧ prio s e < prio s h := by
  have hcond : (s.susp.isNone && !s.cr.cx && !s.cr.ecx && (s.pri e).ecp) = true ↔ Preemptible s e := by
    simp only [Bool.and_eq_true, Option.isNone_iff_eq_none, Bool.not_eq_true']
    exact ⟨fun ⟨⟨⟨hsusp, hcx⟩, hecx⟩, hecp⟩ => ⟨hsusp, hcx, hecx, hecp⟩,
      fun ⟨hsusp, hcx, hecx, hecp⟩ => ⟨⟨⟨hsusp, hcx⟩, hecx⟩, hecp⟩⟩
  unfold preemptors
  split
  · next h => simp [hcond.1 h, and_assoc]
  · next h => simp [mt hcond.2 h]

theorem wr_of_atBoundary {x : Ctx} (h : atBoundary x = true) : x.wr = false := by
  simp only [atBoundary, Bool.and_eq_true, Bool.not_eq_true'] at h
  obtain ⟨⟨hwr, -⟩, -⟩ := h
  exact hwr

/-- At a boundary with bytes left the channel chosen among those that may preempt is activated (R211). -/
theorem moverStep_of_preempted {s s' : State} {x : Ctx} {k : Chan} (hcur : s.cur = some x) (hrem : x.rem ≠ 0)
    (hboundary : atBoundary x = true) (hchoose : choose s (preemptors s x.ch) = some (k, s')) :
    moverStep s = .next (activate k { s' with susp := some x, cur := none }) := by
  simp only [moverStep, hcur, wr_of_atBoundary hboundary, hrem, hboundary, boundaryStep, hchoose, if_false, if_true,
    Bool.false_eq_true]

/-- Settles O45: the choice is among those that may preempt; a requester that is not above the executing channel is
below every one of them. -/
theorem preemptionAndResume : Obligations.PreemptionAndResume := by
  refine ⟨fun s x h hnext hcur hrem hboundary hsusp hcx hecx hecp hreq hdpa hprio => ?_, fun s y hnext hcur hsusp => ?_⟩
  · have hcond : Preemptible s x.ch := ⟨hsusp, hcx, hecx, hecp⟩
    obtain ⟨k, s', hchoose, hmem, hmax, hdraw⟩ := choose_of_mem (mem_preemptors_iff.2 ⟨hcond, hreq, hdpa, hprio⟩)
    obtain ⟨-, hkreq, hkdpa, hkprio⟩ := mem_preemptors_iff.1 hmem
    refine ⟨k, s', hkreq, hkdpa, hkprio, fun m hmreq hmdpa => ?_, hdraw,
      (step_of_moverNext hnext).trans (moverStep_of_preempted hcur hrem hboundary hchoose)⟩
    rcases Nat.lt_or_ge (prio s x.ch) (prio s m) with hmprio | hmprio
    · exact hmax m (mem_preemptors_iff.2 ⟨hcond, hmreq, hmdpa, hmprio⟩)
    · exact (Nat.lt_of_le_of_lt hmprio hkprio).le
  · simp only [step_of_moverNext hnext, moverStep, hcur, hsusp]

/-! ### What changes the suspended context (R205, R210, R212, R288, R320) -/

@[simp] theorem activate_susp (c : Chan) (s : State) : (activate c s).susp = s.susp := by
  rcases activate_cases c s with ⟨-, h⟩ | ⟨-, h⟩ <;> simp [h]

@[simp] theorem arbitrate_susp (s : State) : (arbitrate s).susp = s.susp := by
  rcases arbitrate_cases s with ⟨c, s', -, rfl | rfl, h⟩ | h <;> simp [h]

theorem readElement_susp {x : Ctx} {s t : State} (h : readElement x s = .next t) : t.susp = s.susp := by
  rcases readElement_next h with ⟨e, rfl⟩ | ⟨b, s', hdone, hrest⟩
  · rfl
  · obtain ⟨-, d, rfl⟩ := busRead_done hdone
    rcases hrest with ⟨-, rfl⟩ | ⟨-, rfl⟩ <;> rfl

theorem writeElement_susp {x : Ctx} {s t : State} (h : writeElement x s = .next t) : t.susp = s.susp := by
  rcases writeElement_next h with ⟨e, rfl⟩ | ⟨b, c, s', hdone, hrest⟩
  · rfl
  · obtain ⟨m, -, rfl⟩ := busWrite_done hdone
    rcases hrest with ⟨-, rfl⟩ | ⟨-, rfl⟩ <;> rfl

theorem loadWord_susp {x : Ctx} {got : List Byte} {s t : State} (h : loadWord x got s = .next t) :
    t.susp = s.susp := by
  rcases loadWord_next h with ⟨e, rfl⟩ | ⟨b, s', hdone, rfl⟩
  · rfl
  · obtain ⟨-, d, rfl⟩ := busRead_done hdone
    rfl

theorem completion_susp {x : Ctx} {s t : State} (h : completion x s = .next t) : t.susp = s.susp := by
  rcases completion_next h with ⟨-, rfl⟩ | ⟨-, -, rfl⟩ | ⟨-, -, -, rfl⟩ | ⟨-, -, got, -, -, rfl⟩ | ⟨-, -, got, hload, -⟩
  · exact (Completed.minor _).stopped.susp
  · exact Completed.major.stopped.susp
  · exact Completed.majorFailed.stopped.susp
  · exact (Completed.majorLoaded got).stopped.susp
  · exact loadWord_susp hload

/-- The step from `s` to `t` preempts the executing channel: it stands at a boundary with bytes left, R210's condition
holds, and its context becomes the suspended one (R211). -/
def preemptsInto (s t : State) : Prop :=
  ∃ x h, s.susp = none ∧ s.cur = some x ∧ t.susp = some x ∧ atBoundary x = true ∧ x.rem ≠ 0 ∧
    s.cr.cx = false ∧ s.cr.ecx = false ∧ (s.pri x.ch).ecp = true ∧
    req s h = true ∧ (s.pri h).dpa = false ∧ prio s x.ch < prio s h

/-- The step from `s` to `t` resumes the suspended context, with nothing executing (R205). -/
def resumesInto (s t : State) : Prop := ∃ y, s.cur = none ∧ s.susp = some y ∧ t.cur = some y ∧ t.susp = none

/-- Of the steps of the data mover, preemption and resume alone change the suspended context. -/
theorem moverStep_susp {s t : State} (h : moverStep s = .next t) :
    t.susp = s.susp ∨ preemptsInto s t ∨ resumesInto s t := by
  rcases moverStep_next h with ⟨y, hcur, hsusp, rfl⟩ | ⟨-, -, rfl⟩ | ⟨x, -, -, hwrite⟩ | ⟨x, -, -, -, hcomp⟩ |
    ⟨x, k, s', hcur, -, hrem, hboundary, hchoose, rfl⟩ | ⟨x, -, -, -, hread⟩
  · exact .inr (.inr ⟨y, hcur, hsusp, rfl, rfl⟩)
  · exact .inl (arbitrate_susp s)
  · exact .inl (writeElement_susp hwrite)
  · exact .inl (completion_susp hcomp)
  · obtain ⟨hmem, -, -⟩ := choose_some hchoose
    obtain ⟨⟨hsusp, hcx, hecx, hecp⟩, hreq, hdpa, hprio⟩ := mem_preemptors_iff.1 hmem
    exact .inr (.inl ⟨x, k, hsusp, hcur, activate_susp .., hboundary, hrem, hcx, hecx, hecp, hreq, hdpa, hprio⟩)
  · exact .inl (readElement_susp hread)

theorem moverTurn_susp {s t : State} (h : moverTurn s = .next t) :
    t.susp = s.susp ∨ preemptsInto s t ∨ resumesInto s t := by
  unfold moverTurn at h
  split at h
  · cases h; exact .inl rfl
  · exact moverStep_susp h

theorem hostOperation_susp {f : Format} {bytes : List Byte} {s t : State} (h : hostOperation f bytes s = .next t) :
    t.susp = s.susp := by
  obtain ⟨-, ⟨i, -, hexec⟩ | rfl | rfl | rfl⟩ := hostOperation_next h
  · exact (exec_hostEffect hexec).susp
  all_goals rfl

theorem hostAccess_susp {a : Addr} {w : Width} {d : Dir} {v : Word} {s t : State}
    (h : hostAccess a w d v s = .next t) : t.susp = s.susp := by
  unfold hostAccess at h
  split at h
  · exact hostOperation_susp h
  · split at h
    · exact hostOperation_susp h
    · unfold hostMemory at h
      split at h <;> cases h <;> rfl

/-- Of the events, a turn of the data mover and the assertion of reset alone change the suspended context. -/
theorem runEvent_susp {e : Event} {s t : State} (h : runEvent e s = .next t) :
    t.susp = s.susp ∨ (preemptsInto s t ∨ resumesInto s t) ∨ e = .reset true ∧ t.susp = none := by
  cases e with
  | host f bytes => exact .inl (hostOperation_susp h)
  | bus a w d v => exact .inl (hostAccess_susp h)
  | mover => exact (moverTurn_susp h).imp_right .inl
  | line slot level => cases h; exact .inl rfl
  | pulse n => cases h; rw [applyPulse_eq]; exact .inl rfl
  | reset level =>
    cases h
    cases level with
    | false => exact .inl rfl
    | true => exact .inr (.inr ⟨rfl, rfl⟩)

/-- Settles O46: over the data mover's turn and every event of an agenda; what is left of the agenda matters to
neither. -/
theorem suspensionOnlyByPreemption : Obligations.SuspensionOnlyByPreemption := by
  intro s t hstep hchanged
  rcases step_next hstep with ⟨-, hturn⟩ | ⟨e, rest, hagenda, hevent⟩
  · rcases moverTurn_susp hturn with hsame | hpreempt | hresume
    · exact absurd hsame hchanged
    · exact .inl hpreempt
    · exact .inr (.inl hresume)
  · rcases runEvent_susp hevent with hsame | (hpreempt | hresume) | ⟨rfl, hnone⟩
    · exact absurd hsame hchanged
    · exact .inl hpreempt
    · exact .inr (.inl hresume)
    · exact .inr (.inr ⟨rest, hagenda, hnone⟩)

end Sys2Proof.Machine

/-! PROOF. Host commands and register accesses (42_host_commands.md): the commands on enables, latches and `DONE` (O7,
O9, O11, O12), the engine's registers (O13 to O18), the fields of a slot (O19, O20), and the cancel: after a completion
(O44), and held only while a channel executes (O57). -/

namespace Sys2Proof.Machine

open Sys2Proof.Safety

/-! ### The outputs of the error latches (R290, R296) -/

theorem esVld_iff (s : State) : esVld s = true ↔ ∃ n : Chan, s.err.getLsbD n.toNat = true := by
  rw [esVld, bne_iff_ne, word_ne_zero_iff]

theorem irqErr_iff (s : State) :
    irqErr s = true ↔ ∃ n : Chan, s.err.getLsbD n.toNat = true ∧ s.eei.getLsbD n.toNat = true := by
  simp only [irqErr, bne_iff_ne, word_ne_zero_iff, BitVec.getLsbD_and, Bool.and_eq_true]

/-- With no error latched both outputs of the latches are 0. -/
theorem outputs_of_err_eq_zero {s : State} (h : s.err = 0) : esVld s = false ∧ irqErr s = false := by
  simp [esVld, irqErr, h]

/-! ### `CEEI`, `SEEI`, `CERR` and `CINT` (R251, R252, R257, R258) -/

/-- Settles O7: the commands write `EEI` alone, and an enable set while its error is latched shows at the output. -/
theorem ceeiSeeiWriteErrorInterruptEnable : Obligations.CeeiSeeiWriteErrorInterruptEnable := by
  refine ⟨fun s ch => ?_, fun s => ?_, rfl, rfl, fun s ch => ?_, fun s => ?_, rfl⟩
  · exact ⟨_, rfl, getLsbD_clearBits_selOne s.eei ch, rfl, fun _ => rfl⟩
  · exact ⟨_, rfl, clearBits_selAll s.eei, rfl, fun _ => rfl⟩
  · refine ⟨_, rfl, getLsbD_setBits_selOne s.eei ch, fun herr => (irqErr_iff _).2 ⟨ch, herr, ?_⟩, rfl, fun _ => rfl⟩
    exact (getLsbD_setBits_selOne ..).trans (if_pos rfl)
  · refine ⟨_, rfl, getLsbD_setBits_selAll s.eei, fun herr => ?_, rfl, fun _ => rfl⟩
    obtain ⟨n, hn⟩ := (word_ne_zero_iff s.err).1 herr
    exact (irqErr_iff _).2 ⟨n, hn, getLsbD_setBits_selAll s.eei n⟩

/-- With its last latch cleared a register is 0. -/
theorem clearBits_selOne_eq_zero {r : Word} {n : Chan} (h : ∀ m : Chan, m ≠ n → r.getLsbD m.toNat = false) :
    clearBits r (selOne n) = 0 := by
  by_contra hne
  obtain ⟨m, hm⟩ := (word_ne_zero_iff _).1 hne
  rw [getLsbD_clearBits_selOne] at hm
  split at hm
  · cases hm
  · next hmn => rw [h m hmn] at hm; cases hm

/-- Settles O11: the commands write one latch register alone, on which the outputs depend. -/
theorem cerrCintClearLatches : Obligations.CerrCintClearLatches := by
  refine ⟨fun s ch => ?_, fun s => ?_, rfl, rfl, fun s ch => ?_, fun s => ?_, rfl⟩
  · exact ⟨_, rfl, getLsbD_clearBits_selOne s.err ch,
      fun hlast => outputs_of_err_eq_zero (clearBits_selOne_eq_zero hlast), rfl, fun _ => rfl⟩
  · have hzero := clearBits_selAll s.err
    obtain ⟨hvld, hirq⟩ := outputs_of_err_eq_zero (s := (s.clearErr selAll).ack) hzero
    exact ⟨_, rfl, hzero, hvld, hirq, rfl, fun _ => rfl⟩
  · exact ⟨_, rfl, getLsbD_clearBits_selOne s.int ch, (getLsbD_clearBits_selOne ..).trans (if_pos rfl), rfl,
      fun _ => rfl⟩
  · have hzero : (s.clearInt selAll).ack.int = 0 := clearBits_selAll s.int
    exact ⟨_, rfl, hzero, fun n => by rw [irqCh, hzero]; exact BitVec.getLsbD_zero, rfl, fun _ => rfl⟩

/-! ### `CDNE` (R250, R255) -/

theorem slot_clearDone (s : State) (sel : Word) (n : Chan) :
    (s.clearDone sel).ack.slot n = if sel.getLsbD n.toNat then setDone (s.slot n) false else s.slot n :=
  slot_overSlots s sel (setDone · false) n

/-- `CDNE` writes no field of a slot but `CSR`. -/
theorem slot_clearDone_fields (s : State) (sel : Word) (n : Chan) :
    (s.clearDone sel).ack.slot n = { s.slot n with csr := ((s.clearDone sel).ack.slot n).csr } := by
  rw [slot_clearDone]
  split <;> rfl

theorem getLsbD_csr_clearDone (s : State) (sel : Word) (n : Chan) (i : Nat) :
    ((s.clearDone sel).ack.slot n).csr.getLsbD i =
      if sel.getLsbD n.toNat = true ∧ i = 7 then false else (s.slot n).csr.getLsbD i := by
  rw [slot_clearDone]
  by_cases hsel : sel.getLsbD n.toNat = true
  · simp only [hsel, if_true, true_and, getLsbD_csr_setDone]
  · rw [if_neg hsel, if_neg fun h => hsel h.1]

/-- Settles O9: bit 7 of the selected slots is cleared and no other. -/
theorem cdneClearsDone : Obligations.CdneClearsDone := by
  refine ⟨fun s ch => ?_, fun s => ?_⟩
  · refine ⟨_, rfl, slot_clearDone_fields s (selOne ch), fun n i => ?_, rfl, fun _ => rfl⟩
    simpa using getLsbD_csr_clearDone s (selOne ch) n i
  · refine ⟨_, rfl, slot_clearDone_fields s selAll, fun n i => ?_, rfl, fun _ => rfl⟩
    simpa using getLsbD_csr_clearDone s selAll n i

/-! ### No operation (R120, R259) -/

/-- The eight forms with `NOP = 1`. -/
def nopForms : List Instr := [.ceeiNop, .seeiNop, .cerqNop, .serqNop, .cdneNop, .ssrtNop, .cerrNop, .cintNop]

/-- A command byte with bit 7 set is of the no-operation form, whatever `ALL` and `CH` hold. -/
theorem commandForm_of_nop {b : Byte} (h : b.getLsbD 7 = true) (one : Chan → Instr) (all nop : Instr) :
    commandForm b one all nop = nop := if_pos h

theorem decodeCommand_of_nop (k : BitVec 3) {b : Byte} (h : b.getLsbD 7 = true) : decodeCommand k b ∈ nopForms := by
  simp only [decodeCommand, commandForm_of_nop h]
  revert k; decide

theorem exec_of_nop {i : Instr} (h : i ∈ nopForms) (s : State) : exec i s = .next s.ack := by
  simp only [nopForms, List.mem_cons, List.not_mem_nil, or_false] at h
  rcases h with rfl | rfl | rfl | rfl | rfl | rfl | rfl | rfl <;> rfl

/-- Settles O12: the byte decodes to one of the eight forms, each of which acknowledges the store only. -/
theorem nopCommandsChangeNothing : Obligations.NopCommandsChangeNothing :=
  fun s k b h => ⟨decodeCommand k b, decode_encodeCommand k b, decodeCommand_of_nop k h, fun _ hj => exec_of_nop hj s⟩

/-! ### Loads and stores of a register (R230, R231) -/

/-- An access of a register's own width at its offset is the operation on that register. -/
theorem selects_engOffset {k : Nat} (r : EngReg) {w : Width} (hwidth : engWidth r = w.bytes) {i : Access k → Instr}
    (hreg : ∀ store v, decodeEngAccess store v r = .ok (i (accessOf k store v))) : selects (engOffset r) w i := by
  have hdecode (d : Dir) (v : Word) :
      decode .eng16 (engAccessBytes (engOffset r) w d v) = .ok (i (accessOf k (d == .write) v)) := by
    rw [decode_engAccessBytes, decodeEng16, engSelect_engOffset]
    simp only [(widthAgrees_controlByte w d _).2 hwidth, if_true, getLsbD_controlByte_zero, hreg]
  exact fun v => ⟨hdecode .read v, hdecode .write v⟩

/-- The host has the value that a load returns, widened with zeros. -/
theorem readsAs_of_returns {w : Nat} {i : Instr} {s : State} {v : BitVec w} (h : exec i s = .next (s.returns v)) :
    readsAs i s (v.setWidth 32) := h

theorem readsAs_of_returns_word {i : Instr} {s : State} {v : Word} (h : exec i s = .next (s.returns v)) :
    readsAs i s v := by
  simpa only [BitVec.setWidth_eq] using readsAs_of_returns h

/-- The bits of a flag that stands as a word of one bit in a register as read. -/
theorem getLsbD_flag (b : Bool) (i : Nat) : (BitVec.ofBool b).getLsbD i = if i = 0 then b else false := by
  rw [BitVec.getLsbD_ofBool]
  by_cases h : i = 0 <;> simp [h]

/-! ### `CR` (R233) -/

theorem executing_iff (s : State) : executing s = true ↔ s.cur ≠ none ∨ s.susp ≠ none := by
  simp only [executing, Bool.or_eq_true, Option.isSome_iff_ne_none]

/-- The cancel bits are written while a channel executes or is suspended. -/
theorem cancelBits_writeCr_of_executing {s : State} (h : executing s = true) (v : Word) :
    (s.writeCr v).cr.cx = v.getLsbD 17 ∧ (s.writeCr v).cr.ecx = v.getLsbD 16 := by
  simp only [State.writeCr, h, Bool.true_and, and_self]

/-- The cancel bits are 0 after a write while no channel executes. -/
theorem cancelBits_writeCr_of_idle {s : State} (h : executing s = false) (v : Word) :
    (s.writeCr v).cr.cx = false ∧ (s.writeCr v).cr.ecx = false := by
  simp only [State.writeCr, h, Bool.false_and, and_self]

/-- An error of the priorities is reported by the check of any channel (R141). -/
theorem mem_confcheck_of_mem_priorityErrors {s : State} {k : ErrKind} (h : k ∈ priorityErrors s) (c : Chan) :
    k ∈ confcheck s c := List.mem_append_right _ h

/-- `CR` as read, bit by bit. -/
theorem getLsbD_crRead (s : State) (i : Nat) :
    (crRead s).getLsbD i =
      if i = 17 then s.cr.cx else if i = 16 then s.cr.ecx else if i = 10 then s.cr.grp1pri
      else if i = 8 then s.cr.grp0pri else false := by
  simp only [crRead, BitVec.getLsbD_append, getLsbD_flag, BitVec.getLsbD_zero]
  by_cases hflag : i = 17 ∨ i = 16 ∨ i = 10 ∨ i = 8
  · rcases hflag with rfl | rfl | rfl | rfl <;> rfl
  · grind

/-- Settles O13: a write is `writeCr`, and a read is `crRead`. -/
theorem controlRegisterAccess : Obligations.ControlRegisterAccess := by
  refine ⟨selects_engOffset .cr rfl fun _ _ => rfl, fun s v => ?_, fun s => ?_⟩
  · refine ⟨(s.writeCr v).ack, rfl, rfl, rfl, fun hexec => ?_, fun hcur hsusp => ?_, fun hequal c => ?_, rfl,
      fun _ => rfl⟩
    · exact cancelBits_writeCr_of_executing ((executing_iff s).2 hexec) v
    · exact cancelBits_writeCr_of_idle (by simp [executing, hcur, hsusp]) v
    · exact mem_confcheck_of_mem_priorityErrors ((mem_priorityErrors_iff _ _).2 (.inl ⟨rfl, hequal.symm⟩)) c
  · exact ⟨crRead s, readsAs_of_returns_word rfl, getLsbD_crRead s⟩

/-! ### `ES` (R234, R290) -/

/-- `ES` as read, bit by bit. -/
theorem getLsbD_esRead (s : State) (i : Nat) :
    (esRead s).getLsbD i = if i = 31 then s.err != 0 else if i < 17 ∧ i ≠ 13 then s.es.getLsbD i else false := by
  simp only [esRead, BitVec.getLsbD_append, getLsbD_flag, BitVec.getLsbD_zero, BitVec.getLsbD_extractLsb',
    esVld]
  grind

/-- Settles O14: a load is `esRead`, and a store is acknowledged only. -/
theorem errorStatusAccess : Obligations.ErrorStatusAccess :=
  ⟨selects_engOffset .es rfl fun _ _ => rfl, fun s => ⟨esRead s, readsAs_of_returns_word rfl, getLsbD_esRead s⟩,
    fun _ _ => rfl⟩

/-! ### `ERQ`, `EEI`, `INT`, `ERR` and `HRS` (R235 to R239) -/

/-- Settles O15: a store replaces the register, and an enable written 1 while its error is latched shows at the
output. -/
theorem enableRegistersAccess : Obligations.EnableRegistersAccess := by
  refine ⟨selects_engOffset .erq rfl fun _ _ => rfl, selects_engOffset .eei rfl fun _ _ => rfl, fun s v => ?_,
    fun s v => ?_, fun s => ⟨readsAs_of_returns_word rfl, readsAs_of_returns_word rfl⟩⟩
  · exact ⟨_, rfl, rfl, rfl, fun _ => rfl⟩
  · exact ⟨_, rfl, rfl, fun n henable herr => (irqErr_iff _).2 ⟨n, herr, henable⟩, rfl, fun _ => rfl⟩

/-- A latch register after a store: a 1 clears the latch and a 0 leaves it (R237, R238). -/
theorem getLsbD_writeOneToClear (r v : Word) (n : Chan) :
    (r &&& ~~~v).getLsbD n.toNat = if v.getLsbD n.toNat then false else r.getLsbD n.toNat := by
  refine (getLsbD_clearBits r v n.toNat).trans ?_
  cases v.getLsbD n.toNat <;> simp

/-- Settles O16: a store clears by ones, and `VLD` follows the latches left. -/
theorem latchRegistersWriteOneToClear : Obligations.LatchRegistersWriteOneToClear := by
  refine ⟨selects_engOffset .int rfl fun _ _ => rfl, selects_engOffset .err rfl fun _ _ => rfl, fun s v => ?_,
    fun s v => ?_, fun s => ⟨readsAs_of_returns_word rfl, readsAs_of_returns_word rfl⟩⟩
  · exact ⟨_, rfl, getLsbD_writeOneToClear s.int v, rfl, fun _ => rfl⟩
  · have hbits := getLsbD_writeOneToClear s.err v
    refine ⟨_, rfl, hbits, (esVld_iff _).trans (exists_congr fun n => ?_), rfl, fun _ => rfl⟩
    rw [State.ack_err, hbits]
    cases v.getLsbD n.toNat <;> simp

/-- Settles O17: a load is the enabled requests channel by channel, and a store is acknowledged only. -/
theorem hardwareRequestStatusAccess : Obligations.HardwareRequestStatusAccess :=
  ⟨selects_engOffset .hrs rfl fun _ _ => rfl,
    fun s => ⟨hrsRead s, readsAs_of_returns_word rfl, getLsbD_perChannel (hwRequest s)⟩, fun _ _ => rfl⟩

/-! ### `DCHPRI` (R240, R283) -/

theorem pri_writeDchpri (s : State) (n m : Chan) (v : Byte) :
    (s.writeDchpri n v).ack.pri m =
      if m = n then { ecp := v.getLsbD 7, dpa := v.getLsbD 6, chpri := v.extractLsb' 0 4 } else s.pri m :=
  pri_setPri ..

/-- A priority that another channel of the group holds already is reported by the check of any channel (R283). -/
theorem cpe_of_duplicate {s : State} {n m : Chan} (hne : m ≠ n) (hgroup : m.toNat / 16 = n.toNat / 16)
    (hpri : (s.pri m).chpri = (s.pri n).chpri) (c : Chan) : ErrKind.cpe ∈ confcheck s c :=
  mem_confcheck_of_mem_priorityErrors ((mem_priorityErrors_iff ..).2 (.inr ⟨rfl, m, n, hne, hgroup, hpri⟩)) c

/-- Group 1 is the channels from 16 up. -/
theorem groupPri_eq (s : State) (n : Chan) :
    groupPri s n = if 16 ≤ n.toNat then s.cr.grp1pri else s.cr.grp0pri := by
  have hgroup : n.getLsbD 4 = true ↔ 16 ≤ n.toNat := by revert n; decide
  simp only [groupPri, hgroup]

/-- `DCHPRI[n]` as read, bit by bit. -/
theorem getLsbD_dchpriRead (s : State) (n : Chan) (i : Nat) :
    (dchpriRead s n).getLsbD i =
      if i = 7 then (s.pri n).ecp else if i = 6 then (s.pri n).dpa else if i = 4 then groupPri s n
      else if i < 4 then (s.pri n).chpri.getLsbD i else false := by
  simp only [dchpriRead, BitVec.getLsbD_append, getLsbD_flag, BitVec.getLsbD_zero]
  grind

/-- Settles O18: a store is `writeDchpri`, which the check of the priorities reads, and a load is `dchpriRead`. -/
theorem priorityRegisterAccess : Obligations.PriorityRegisterAccess := by
  refine ⟨fun n => selects_engOffset (.dchpri n) rfl fun _ _ => rfl, fun s n v => ?_, fun s n => ?_⟩
  · have hself := (pri_writeDchpri s n n v).trans (if_pos rfl)
    have hother {m : Chan} (hm : m ≠ n) := (pri_writeDchpri s n m v).trans (if_neg hm)
    refine ⟨(s.writeDchpri n v).ack, rfl, hself, fun m hm => hother hm, fun m c hm hgroup hpri => ?_, rfl, fun _ => rfl⟩
    exact cpe_of_duplicate hm hgroup (by rw [hself, hother hm, hpri]) c
  · refine ⟨(dchpriRead s n).setWidth 32, readsAs_of_returns rfl, fun i => ?_⟩
    rw [BitVec.getLsbD_setWidth, getLsbD_dchpriRead, groupPri_eq]
    grind

/-! ### The fields of a slot (R241, R242) -/

/-- A field's access at its offset in the slot of channel `n` is the operation on that field (R30, R31). -/
theorem selects_slotField {k : Nat} (n : Chan) (f : SlotField) {w : Width} (hwidth : slotFieldWidth f = w.bytes)
    {i : Access k → Instr} (hfield : ∀ store v, decodeSlotAccess n store v f = i (accessOf k store v)) :
    selects (0x1000 + 0x20 * n.setWidth 16 + (slotFieldOffset f).setWidth 16) w i := by
  rw [BitVec.mul_comm]
  exact selects_engOffset (.slot n f) hwidth fun store v => congrArg _ (hfield store v)

/-- A store to a slot field of a channel that does not execute writes that slot only. The field's load does not
matter. -/
theorem slotAccess_write_of_idle {w : Nat} (get : Tcd → BitVec w) (put : Tcd → BitVec w → Tcd) {n : Chan}
    (v : BitVec w) {s : State} (h : csrActive (s.slot n) = false) :
    ∃ t, slotAccess get put n (.write v) s = .next t ∧ wroteSlot s t n (put (s.slot n) v) := by
  obtain ⟨t, hexec, -, hwrote⟩ := storeWord_of_idle put v h
  exact ⟨t, hexec, hwrote⟩

/-- A store to a slot field of an executing channel is refused. -/
theorem slotAccess_write_of_active {w : Nat} (get : Tcd → BitVec w) (put : Tcd → BitVec w → Tcd) {n : Chan}
    (v : BitVec w) {s : State} (h : csrActive (s.slot n) = true) :
    slotAccess get put n (.write v) s = .refused (.slotBusy n) := storeWord_of_active h

/-- Settles O19: each field's offset selects its operation, which is `slotAccess` with that field's `put`. -/
theorem descriptorFieldWrite : Obligations.DescriptorFieldWrite := by
  intro s n v h
  refine ⟨?_, fun hactive i hi => ?_, fun hidle => ?_⟩
  · have hsaddr := selects_slotField n .saddr (w := .four) rfl (i := .tcdSaddr n) fun _ _ => rfl
    refine ⟨?_, ?_, ?_, ?_, ?_, ?_, ?_, ?_, ?_, ?_, ?_⟩
    · simpa [slotFieldOffset] using hsaddr
    · exact selects_slotField n .soff rfl fun _ _ => rfl
    · exact selects_slotField n .attr rfl fun _ _ => rfl
    · exact selects_slotField n .nbytes rfl fun _ _ => rfl
    · exact selects_slotField n .slast rfl fun _ _ => rfl
    · exact selects_slotField n .daddr rfl fun _ _ => rfl
    · exact selects_slotField n .doff rfl fun _ _ => rfl
    · exact selects_slotField n .citer rfl fun _ _ => rfl
    · exact selects_slotField n .dlastSga rfl fun _ _ => rfl
    · exact selects_slotField n .csr rfl fun _ _ => rfl
    · exact selects_slotField n .biter rfl fun _ _ => rfl
  · simp only [List.mem_cons, List.not_mem_nil, or_false] at hi
    rcases hi with rfl | rfl | rfl | rfl | rfl | rfl | rfl | rfl | rfl | rfl | rfl
    all_goals
      simp only [exec, execTcdSaddr, execTcdSoff, execTcdAttr, execTcdNbytes, execTcdSlast, execTcdDaddr, execTcdDoff,
        execTcdCiter, execTcdDlastSga, execTcdCsr, execTcdBiter]
      exact slotAccess_write_of_active _ _ _ hactive
  · simp only [exec, execTcdSaddr, execTcdSoff, execTcdAttr, execTcdNbytes, execTcdSlast, execTcdDaddr, execTcdDoff,
      execTcdCiter, execTcdDlastSga, execTcdCsr, execTcdBiter]
    refine ⟨?_, ?_, ?_, ?_, ?_, ?_, ?_, ?_, ?_, ?_, ?_⟩
    iterate 10 exact slotAccess_write_of_idle _ _ _ hidle
    obtain ⟨t, hexec, hwrote⟩ :=
      slotAccess_write_of_idle Tcd.csr (fun t v => { t with csr := csrWritten t.csr v }) h hidle
    refine ⟨t, csrWritten (s.slot n).csr h, hexec, hwrote, fun i => ?_⟩
    rw [getLsbD_csrWritten]
    grind

/-- Settles O20: a load of a field is answered whatever the channel does. -/
theorem descriptorFieldRead : Obligations.DescriptorFieldRead := fun _ _ =>
  ⟨readsAs_of_returns_word rfl, readsAs_of_returns rfl, readsAs_of_returns rfl, readsAs_of_returns_word rfl,
    readsAs_of_returns_word rfl, readsAs_of_returns_word rfl, readsAs_of_returns rfl, readsAs_of_returns rfl,
    readsAs_of_returns_word rfl, readsAs_of_returns rfl, readsAs_of_returns rfl⟩

/-! ### A cancel after a completion (R266, R267, R300) -/

/-- The state with no cancel pending. -/
def withoutCancel (s : State) : State := { s with cr := { s.cr with cx := false, ecx := false } }

@[simp] theorem slot_withoutCancel (s : State) (n : Chan) : (withoutCancel s).slot n = s.slot n := rfl

/-- The effects of a minor loop's completion on slots and latches are those with no cancel pending. -/
theorem minorDone_withoutCancel (x : Ctx) (newc : Half) (s : State) :
    minorDone x newc (withoutCancel s) = withoutCancel (minorDone x newc s) := by
  cases hlink : elink (s.slot x.ch).citer <;> cases hhalf : halfComplete (s.slot x.ch) newc <;>
    simp only [minorDone, slot_withoutCancel, hlink, hhalf, if_true, if_false, Bool.false_eq_true] <;> rfl

/-- The effects of a major loop's completion on slots and latches are those with no cancel pending. -/
theorem majorCommit_withoutCancel (x : Ctx) (s : State) :
    majorCommit x (withoutCancel s) = withoutCancel (majorCommit x s) := by
  cases hint : csrIntMajor (s.slot x.ch) <;> cases hdreq : csrDreq (s.slot x.ch) <;>
    cases hlink : csrMajorElink (s.slot x.ch) <;>
    simp only [majorCommit, slot_withoutCancel, hint, hdreq, hlink, if_true, if_false, Bool.false_eq_true] <;> rfl

/-- The capture of the refused read drops a pending cancel (R288, R300). -/
theorem majorDoneFailed_withoutCancel (x : Ctx) (s : State) :
    majorDoneFailed x (withoutCancel s) = majorDoneFailed x s := by
  rw [majorDoneFailed, majorCommit_withoutCancel]
  rfl

/-- A second write of the same value to a bit changes nothing. -/
theorem putBit_putBit_same {w : Nat} (v : BitVec w) (i : Nat) (b : Bool) :
    putBit (putBit v i b) i b = putBit v i b := by
  refine BitVec.eq_of_getLsbD_eq fun j _ => ?_
  simp only [getLsbD_putBit]
  split <;> rfl

theorem retire_withoutCancel (c : Chan) (s : State) :
    retire c (withoutCancel s) = { withoutCancel s with cur := none } := retire_of_no_cancel rfl rfl

/-- With `CX` alone pending, a completion ends without the cancel bits and the chain bit (R266). -/
theorem retire_of_cx {c : Chan} {s : State} (hcx : s.cr.cx = true) (hecx : s.cr.ecx = false) :
    retire c s = { retire c (withoutCancel s) with inprog := putBit s.inprog c.toNat false } := by
  simp [retire, cancelCheck, withoutCancel, hcx, hecx]

/-- With `ECX` pending, `CX` set or not, a completion ends in the capture of `ECX` (R267). -/
theorem retire_of_ecx {c : Chan} {s : State} (hecx : s.cr.ecx = true) :
    retire c s = raiseChannelError c [.ecx] (retire c (withoutCancel s)) := by
  rw [retire_withoutCancel, retire, cancelCheck, if_pos hecx]
  simp only [raiseChannelError, putBit_putBit_same]
  rfl

/-- The last minor loop has ended and the next-descriptor read was refused: the completion captures `SBE` (R300). -/
def endsRefused (x : Ctx) (s : State) : Prop :=
  x.part = .loadFailed ∧ count (s.slot x.ch).citer - 1 = 0 ∧ csrEsg (s.slot x.ch) = true

theorem moverStep_of_completion {s : State} {x : Ctx} (hcur : s.cur = some x) (hwr : x.wr = false) (hrem : x.rem = 0) :
    moverStep s = completion x s := by
  simp [moverStep, hcur, hwr, hrem]

/-- A pending cancel changes nothing of a completion before its end: the error that the completion captures drops the
cancel, and any other completion that leaves no context ends in `retire` of a state that differs in the cancel bits
alone. -/
theorem completion_of_withoutCancel {s t : State} {x : Ctx} (h : completion x (withoutCancel s) = .next t)
    (hdone : t.cur = none) :
    (endsRefused x s ∧ completion x s = .next t) ∨
    (¬ endsRefused x s ∧
      ∃ u, u.cr = s.cr ∧ completion x s = .next (retire x.ch u) ∧ t = retire x.ch (withoutCancel u)) := by
  rcases completion_next h with ⟨hleft, rfl⟩ | ⟨hlast, hesg, rfl⟩ | ⟨hlast, hesg, hpart, rfl⟩ |
    ⟨hlast, hesg, got, hpart, hgot, rfl⟩ | ⟨-, -, got, hload, -⟩
  case inl =>
    rw [slot_withoutCancel] at hleft
    refine .inr ⟨fun ⟨_, hlast, _⟩ => hleft hlast, minorDone x (newCount (s.slot x.ch)) s, ?_, ?_, ?_⟩
    · rw [minorDone_eq]
    · rw [completion, if_pos hleft]
    · rw [slot_withoutCancel, minorDone_withoutCancel]
  case inr.inr.inr.inr => rcases loadWord_next hload with ⟨e, rfl⟩ | ⟨b, s', -, rfl⟩ <;> cases hdone
  all_goals rw [slot_withoutCancel] at hlast hesg
  · refine .inr ⟨fun ⟨_, _, hlink⟩ => ?_, { majorCommit x s with inprog := putBit s.inprog x.ch.toNat false },
      ?_, ?_, ?_⟩
    · simp [hesg] at hlink
    · exact majorCommit_cr x s
    · simp [completion, hlast, hesg, majorDone]
    · rw [majorDone, majorCommit_withoutCancel]
      simp [withoutCancel]
  · refine .inl ⟨⟨hpart, hlast, hesg⟩, ?_⟩
    simp [completion, hlast, hesg, majorLinked_of_loadFailed hpart, majorDoneFailed_withoutCancel]
  · refine .inr ⟨fun ⟨hrefused, _, _⟩ => ?_, (majorCommit x s).setSlot x.ch (slotImage (tcdOfBytes got)), ?_, ?_, ?_⟩
    · simp [hpart] at hrefused
    · exact majorCommit_cr x s
    · simp [completion, hlast, hesg, majorLinked, hpart, hgot, majorDoneLoad]
    · rw [majorDoneLoad, majorCommit_withoutCancel]
      rfl

/-- Settles O44: the completion without the cancel and the one with it differ in what `retire` makes of the cancel. -/
theorem cancelFollowsCompletion : Obligations.CancelFollowsCompletion := by
  intro s t x hnext hcur hwr hrem hpending hstep hdone failed
  have hplain : completion x (withoutCancel s) = .next t := by
    rwa [← moverStep_of_completion (s := withoutCancel s) hcur hwr hrem,
      ← step_of_moverNext (s := withoutCancel s) hnext]
  rw [step_of_moverNext hnext, moverStep_of_completion hcur hwr hrem]
  rcases completion_of_withoutCancel hplain hdone with ⟨hfailed, hsame⟩ | ⟨hends, u, hcr, hretire, rfl⟩
  · exact ⟨fun _ => hsame, fun hends => absurd hfailed hends⟩
  · refine ⟨fun hfailed => absurd hfailed hends, fun _ => ⟨fun hecx => ?_, fun hecx => ?_⟩⟩
    · have hcx : s.cr.cx = true := by simpa [hecx] using hpending
      rw [hretire, retire_of_cx (hcr ▸ hcx) (hcr ▸ hecx), retire_withoutCancel]
      rfl
    · rw [hretire, retire_of_ecx (hcr ▸ hecx)]

/-! ### The cancel bits are held only while a channel executes (R233, R265 to R268) -/

/-- No cancel is pending. -/
def noCancel (s : State) : Prop := s.cr.cx = false ∧ s.cr.ecx = false

theorem cancelHeld_of_noCancel {s : State} (h : noCancel s) : cancelHeld s := by
  obtain ⟨hcx, hecx⟩ := h
  simp [cancelHeld, hcx, hecx]

theorem cancelHeld_of_executing {s : State} (h : executing s = true) : cancelHeld s := fun _ => h

theorem cancelHeld_congr {s t : State} (hs : cancelHeld s) (hcr : t.cr = s.cr) (hcur : t.cur = s.cur)
    (hsusp : t.susp = s.susp) : cancelHeld t := by
  simpa only [cancelHeld, executing, hcr, hcur, hsusp] using hs

/-- Error capture drops a pending cancel (R288). -/
theorem noCancel_raiseChannelError (c : Chan) (kinds : List ErrKind) (s : State) :
    noCancel (raiseChannelError c kinds s) := ⟨rfl, rfl⟩

/-- A completion's end honours a pending cancel and clears its bits (R266). -/
theorem noCancel_retire (c : Chan) (s : State) : noCancel (retire c s) := by
  cases hecx : s.cr.ecx with
  | true => rw [retire_of_ecx hecx]; exact noCancel_raiseChannelError ..
  | false =>
    cases hcx : s.cr.cx with
    | true => rw [retire_of_cx hcx hecx]; exact ⟨rfl, rfl⟩
    | false => rw [retire_of_no_cancel hcx hecx]; exact ⟨hcx, hecx⟩

theorem Completed.noCancel {x : Ctx} {s t : State} (h : Completed x s t) : noCancel t := by
  cases h with
  | minor | major | majorLoaded => exact noCancel_retire ..
  | majorFailed => exact noCancel_raiseChannelError ..

/-- Activation leaves a channel executing, or captures an error. -/
theorem cancelHeld_activate (c : Chan) (s : State) : cancelHeld (activate c s) := by
  rcases activate_cases c s with ⟨-, h⟩ | ⟨-, h⟩ <;> rw [h]
  · exact cancelHeld_of_executing rfl
  · exact cancelHeld_of_noCancel (noCancel_raiseChannelError ..)

theorem cancelHeld_mover {s t : State} (h : MoverEffect s t) (hs : cancelHeld s) : cancelHeld t := by
  cases h with
  | resumed => exact cancelHeld_of_executing rfl
  | arbitrated =>
    rcases arbitrate_cases s with ⟨c, s', -, -, h⟩ | h <;> rw [h]
    · exact cancelHeld_activate c s'
    · exact hs
  | accessed => exact cancelHeld_of_executing rfl
  | refused => exact cancelHeld_of_noCancel (noCancel_raiseChannelError ..)
  | completed x _ hend => exact cancelHeld_of_noCancel hend.noCancel
  | preempted => exact cancelHeld_activate _ _

theorem slotAccess_cr {w : Nat} {get : Tcd → BitVec w} {put : Tcd → BitVec w → Tcd} {n : Chan} {a : Access w}
    {s t : State} (h : slotAccess get put n a s = .next t) : t.cr = s.cr := by
  rcases slotAccess_next h with ⟨-, rfl⟩ | ⟨v, -, -, rfl⟩ <;> rfl

/-- No operation of the host but a store to `CR` writes `CR`. -/
theorem exec_cr {i : Instr} {s t : State} (h : exec i s = .next t) : t.cr = s.cr ∨ ∃ v, t = (s.writeCr v).ack := by
  cases i
  case cr a =>
    cases a with
    | read => cases h; exact .inl rfl
    | write v => cases h; exact .inr ⟨v, rfl⟩
  all_goals left
  case es a | erq a | eei a | int a | err a | hrs a | dchpri n a => cases a <;> cases h <;> rfl
  case chcfg n a =>
    cases a with
    | read => cases h; rfl
    | write v => cases h; rw [State.ack_cr, writeChcfg_eq]
  case tcd n d =>
    simp only [exec, execTcd] at h
    split at h <;> cases h
    rfl
  case tcdSaddr | tcdSoff | tcdAttr | tcdNbytes | tcdSlast | tcdDaddr | tcdDoff | tcdCiter | tcdDlastSga | tcdCsr |
      tcdBiter => exact slotAccess_cr h
  case attr | nbytesPlain | nbytesOff | iterPlain | iterLink | csr | dlast | sga =>
    simp only [exec, execAttr, execNbytesPlain, execNbytesOff, execIterPlain, execIterLink, execCsr, execDlast,
      execSga] at h
    exact slotAccess_cr h
  all_goals cases h; rfl

/-- A store to `CR` takes the cancel bits only while a channel executes (R233). -/
theorem cancelHeld_writeCr (s : State) (v : Word) : cancelHeld (s.writeCr v).ack := by
  cases hexec : executing s with
  | true => exact cancelHeld_of_executing hexec
  | false => exact cancelHeld_of_noCancel (cancelBits_writeCr_of_idle hexec v)

theorem cancelHeld_keptByParts : KeptByParts cancelHeld where
  outside _ _ _ _ _ hs := hs
  stored _ _ hs := hs
  pulsed n b hs := cancelHeld_congr hs (by simp) (by simp) (by simp)
  reset _ := cancelHeld_of_noCancel ⟨rfl, rfl⟩
  host hexec hs := by
    rcases exec_cr hexec with hcr | ⟨v, rfl⟩
    · have heffect := exec_hostEffect hexec
      exact cancelHeld_congr hs hcr heffect.cur heffect.susp
    · exact cancelHeld_writeCr _ v
  mover := cancelHeld_mover

/-- Settles O57: every part of a step that leaves nothing executing leaves no cancel pending. -/
theorem cancelBitsHeldOnlyWhileExecuting : Obligations.CancelBitsHeldOnlyWhileExecuting :=
  fun _ _ hs hstep => cancelHeld_keptByParts.of_step hstep hs

end Sys2Proof.Machine

/-! PROOF. Exceptions (60_exceptions.md): error capture (O35), the interrupt outputs (O47), and what makes an interrupt
or error latch fall (O48). -/

namespace Sys2Proof.Machine

open Sys2Proof.Safety

/-! ### Error capture and the outputs (R288, R296) -/

/-- Settles O35, field by field: the record, the latch, the flags of the channel, and the frame. -/
theorem errorCapture : Obligations.ErrorCapture := by
  intro s c kinds _ t
  refine ⟨fun i hi hfield => getLsbD_errRecord c kinds hi hfield, esErrChn_raiseChannelError c kinds s,
    fun m => getLsbD_putBit_chan s.err c m true, fun m => getLsbD_putBit_chan s.inprog c m false,
    slot_raiseChannelError_fields c kinds s, fun i => ?_, fun m hm => ?_, rfl, rfl,
    chstate_raiseChannelError c kinds s, rfl, fun _ => rfl⟩
  · simpa only [and_true] using getLsbD_csr_raiseChannelError c c kinds s i
  · exact (slot_raiseChannelError c m kinds s).trans (if_neg hm)

/-- Settles O47: `irq_ch` is the latch itself, and `irq_err` is not 0 exactly when some channel's bit of it is 1. -/
theorem interruptOutputs : Obligations.InterruptOutputs :=
  fun s => ⟨fun _ => rfl, irqErr_iff s⟩

/-! ### The latches an operation of the host clears (R237, R238, R257, R258, R298) -/

/-- The completion latches an operation clears. -/
def intCleared : Instr → Word
  | .cint n => selOne n
  | .cintAll => selAll
  | .int (.write v) => v
  | _ => 0

/-- The error latches an operation clears. -/
def errCleared : Instr → Word
  | .cerr n => selOne n
  | .cerrAll => selAll
  | .err (.write v) => v
  | _ => 0

theorem clearingWrite_of_intCleared {i : Instr} {n : Chan} (h : (intCleared i).getLsbD n.toNat = true) :
    i = .cint n ∨ i = .cintAll ∨ ∃ v, i = .int (.write v) ∧ v.getLsbD n.toNat = true := by
  unfold intCleared at h
  split at h
  · rw [getLsbD_selOne, decide_eq_true_eq] at h
    exact .inl (by rw [h])
  · exact .inr (.inl rfl)
  · exact .inr (.inr ⟨_, rfl, h⟩)
  · simp at h

theorem clearingWrite_of_errCleared {i : Instr} {n : Chan} (h : (errCleared i).getLsbD n.toNat = true) :
    i = .cerr n ∨ i = .cerrAll ∨ ∃ v, i = .err (.write v) ∧ v.getLsbD n.toNat = true := by
  unfold errCleared at h
  split at h
  · rw [getLsbD_selOne, decide_eq_true_eq] at h
    exact .inl (by rw [h])
  · exact .inr (.inl rfl)
  · exact .inr (.inr ⟨_, rfl, h⟩)
  · simp at h

theorem clearBits_zero (r : Word) : clearBits r 0 = r :=
  BitVec.eq_of_getLsbD_eq fun i _ => by simp [getLsbD_clearBits]

/-- An operation that clears no latch is the case of the empty selections. -/
theorem latches_of_kept {s t : State} (h : t.int = s.int ∧ t.err = s.err) :
    t.int = clearBits s.int 0 ∧ t.err = clearBits s.err 0 := by
  rwa [clearBits_zero, clearBits_zero]

/-- A latch that a clearing write makes fall is one it selects. -/
theorem selected_of_falls {r r' sel : Word} {n : Chan} (hclear : r' = clearBits r sel)
    (hbefore : r.getLsbD n.toNat = true) (hafter : r'.getLsbD n.toNat = false) : sel.getLsbD n.toNat = true := by
  rw [hclear, getLsbD_clearBits, hbefore] at hafter
  simpa using hafter

theorem slotAccess_latches {w : Nat} {get : Tcd → BitVec w} {put : Tcd → BitVec w → Tcd} {n : Chan} {a : Access w}
    {s t : State} (h : slotAccess get put n a s = .next t) : t.int = s.int ∧ t.err = s.err := by
  rcases slotAccess_next h with ⟨-, rfl⟩ | ⟨v, -, -, rfl⟩ <;> exact ⟨rfl, rfl⟩

/-- Every operation that answers a next state leaves of both latch registers what it does not clear. -/
theorem exec_latches {i : Instr} {s t : State} (h : exec i s = .next t) :
    t.int = clearBits s.int (intCleared i) ∧ t.err = clearBits s.err (errCleared i) := by
  cases i
  case cint | cintAll => cases h; exact ⟨rfl, (clearBits_zero _).symm⟩
  case cerr | cerrAll => cases h; exact ⟨(clearBits_zero _).symm, rfl⟩
  case int a =>
    cases a with
    | read => cases h; exact latches_of_kept ⟨rfl, rfl⟩
    | write v => cases h; exact ⟨rfl, (clearBits_zero _).symm⟩
  case err a =>
    cases a with
    | read => cases h; exact latches_of_kept ⟨rfl, rfl⟩
    | write v => cases h; exact ⟨(clearBits_zero _).symm, rfl⟩
  all_goals refine latches_of_kept ?_
  case cr a | es a | erq a | eei a | hrs a | dchpri n a => cases a <;> cases h <;> exact ⟨rfl, rfl⟩
  case chcfg n a =>
    cases a with
    | read => cases h; exact ⟨rfl, rfl⟩
    | write v => cases h; exact ⟨State.setTrg_int .., State.setTrg_err ..⟩
  case tcd n d =>
    simp only [exec, execTcd] at h
    split at h <;> cases h
    exact ⟨rfl, rfl⟩
  case tcdSaddr | tcdSoff | tcdAttr | tcdNbytes | tcdSlast | tcdDaddr | tcdDoff | tcdCiter | tcdDlastSga | tcdCsr |
      tcdBiter => exact slotAccess_latches h
  case attr | nbytesPlain | nbytesOff | iterPlain | iterLink | csr | dlast | sga =>
    simp only [exec, execAttr, execNbytesPlain, execNbytesOff, execIterPlain, execIterLink, execCsr, execDlast,
      execSga] at h
    exact slotAccess_latches h
  all_goals cases h; exact ⟨rfl, rfl⟩

/-! ### The data mover clears no latch (R288, R298) -/

/-- From `s` to `t` no interrupt latch and no error latch falls. -/
structure NoLatchFalls (s t : State) : Prop where
  int : ∀ n : Chan, s.int.getLsbD n.toNat = true → t.int.getLsbD n.toNat = true
  err : ∀ n : Chan, s.err.getLsbD n.toNat = true → t.err.getLsbD n.toNat = true

theorem NoLatchFalls.of_eq {s t : State} (hint : t.int = s.int) (herr : t.err = s.err) : NoLatchFalls s t where
  int n h := by rwa [hint]
  err n h := by rwa [herr]

theorem NoLatchFalls.trans {s t u : State} (hst : NoLatchFalls s t) (htu : NoLatchFalls t u) : NoLatchFalls s u where
  int n h := htu.int n (hst.int n h)
  err n h := htu.err n (hst.err n h)

theorem getLsbD_putBit_true {w : Nat} {v : BitVec w} {j : Nat} (i : Nat) (h : v.getLsbD j = true) :
    (putBit v i true).getLsbD j = true := by
  rw [getLsbD_putBit, h, ite_self]

theorem noLatchFalls_raiseChannelError (c : Chan) (kinds : List ErrKind) (s : State) :
    NoLatchFalls s (raiseChannelError c kinds s) where
  int _ h := h
  err _ h := getLsbD_putBit_true _ h

/-- A pending cancel at the end of a completion latches an error at most (R266). -/
theorem NoLatchFalls.retire {c : Chan} {s t : State} (h : NoLatchFalls s t) : NoLatchFalls s (retire c t) := by
  refine h.trans ?_
  unfold Machine.retire cancelCheck
  split
  · exact ⟨fun _ h => h, fun _ h => getLsbD_putBit_true _ h⟩
  · split <;> exact .of_eq rfl rfl

theorem noLatchFalls_minorDone (x : Ctx) (newc : Half) (s : State) : NoLatchFalls s (minorDone x newc s) where
  int n h := by rw [getLsbD_int_minorDone, h, ite_self]
  err n h := by rwa [minorDone_eq]

theorem noLatchFalls_majorCommit (x : Ctx) (s : State) : NoLatchFalls s (majorCommit x s) where
  int n h := by rw [getLsbD_int_majorCommit, h, ite_self]
  err n h := by rwa [majorCommit_err]

theorem Completed.noLatchFalls {x : Ctx} {s t : State} (h : Completed x s t) : NoLatchFalls s t := by
  have hcommit := noLatchFalls_majorCommit x s
  cases h with
  | minor newc => exact (noLatchFalls_minorDone x newc s).retire
  | major => exact .retire (hcommit.trans (.of_eq rfl rfl))
  | majorLoaded image => exact .retire (hcommit.trans (.of_eq rfl rfl))
  | majorFailed => exact hcommit.trans (noLatchFalls_raiseChannelError ..)

theorem noLatchFalls_activate (c : Chan) (s : State) : NoLatchFalls s (activate c s) := by
  have hmark : NoLatchFalls s (markActive c s) := by rw [markActive_eq]; exact .of_eq rfl rfl
  rcases activate_cases c s with ⟨-, h⟩ | ⟨-, h⟩ <;> rw [h]
  · exact hmark.trans (.of_eq rfl rfl)
  · exact hmark.trans (noLatchFalls_raiseChannelError ..)

theorem noLatchFalls_arbitrate (s : State) : NoLatchFalls s (arbitrate s) := by
  rcases arbitrate_cases s with ⟨c, s', -, hdraw, h⟩ | h <;> rw [h]
  · have hdrawn : NoLatchFalls s s' := by rcases hdraw with rfl | rfl <;> exact .of_eq rfl rfl
    exact hdrawn.trans (noLatchFalls_activate c s')
  · exact .of_eq rfl rfl

theorem MoverEffect.noLatchFalls {s t : State} (h : MoverEffect s t) : NoLatchFalls s t := by
  cases h with
  | resumed => exact .of_eq rfl rfl
  | arbitrated => exact noLatchFalls_arbitrate s
  | accessed => exact .of_eq rfl rfl
  | refused x e kind =>
    have hlogged : NoLatchFalls s (s.logBus e) := .of_eq rfl rfl
    exact hlogged.trans (noLatchFalls_raiseChannelError x.ch [kind] _)
  | completed x _ hend => exact hend.noLatchFalls
  | preempted x k s' _ _ _ hdraw =>
    have hsuspend : NoLatchFalls s { s' with susp := some x, cur := none } := by
      rcases hdraw with rfl | rfl <;> exact .of_eq rfl rfl
    exact hsuspend.trans (noLatchFalls_activate k _)

/-- Settles O48: an operation clears the latches of `intCleared` and `errCleared`, and the data mover none. -/
theorem latchesFallOnlyByClearingWrites : Obligations.LatchesFallOnlyByClearingWrites := by
  refine ⟨fun i s t n hexec => ?_, fun s t n hnext hstep => ?_⟩
  · obtain ⟨hint, herr⟩ := exec_latches hexec
    exact ⟨fun hbefore hafter => clearingWrite_of_intCleared (selected_of_falls hint hbefore hafter),
      fun hbefore hafter => clearingWrite_of_errCleared (selected_of_falls herr hbefore hafter)⟩
  · have hkeeps := (moverStep_effect ((step_of_moverNext hnext).symm.trans hstep)).noLatchFalls
    exact ⟨hkeeps.int n, hkeeps.err n⟩

end Sys2Proof.Machine

/-! PROOF. Reset and hazards (70_reset_and_hazards.md): the reset event, what the asserted input holds, and its release
(O53). -/

namespace Sys2Proof.Machine

/-! ### The block after a reset event (R320, R321) -/

@[simp] theorem slot_blockReset (s : State) (n : Chan) : (blockReset s).slot n = slotUnspecified s.draws n.toNat := by
  simp [State.slot]

@[simp] theorem cfg_blockReset (s : State) (n : Chan) : (blockReset s).cfg n = .atReset := by simp [State.cfg]

theorem csrFlags_of_csr_eq_zero {x : Tcd} (h : x.csr = 0) :
    csrActive x = false ∧ csrDone x = false ∧ csrStart x = false := by
  simp [csrActive, csrDone, csrStart, h]

/-- The reset event leaves nothing of a service: the flags of a slot are those of `CSR`, whose reset value is 0. -/
theorem resting_blockReset (s : State) (n : Chan) : Resting (blockReset s) n := by
  obtain ⟨hactive, hdone, hstart⟩ := csrFlags_of_csr_eq_zero (congrArg Tcd.csr (slot_blockReset s n))
  exact ⟨by simp, hactive, by simp, hdone, hstart⟩

/-- A resting channel that neither requests nor is bound is `Free`. -/
theorem chstate_blockReset (s : State) (n : Chan) : chstate (blockReset s) n = .free := by
  simp [(resting_blockReset s n).chstate_eq, ChCfg.atReset]

theorem irqCh_blockReset (s : State) (n : Chan) : irqCh (blockReset s) n = false := by simp [irqCh]

theorem irqErr_blockReset (s : State) : irqErr (blockReset s) = false := (outputs_of_err_eq_zero (blockReset_err s)).2

/-! ### The reset input as an event, and what it holds while asserted (R320) -/

theorem step_of_reset {s : State} {level : Bool} {rest : List Event} (h : s.agenda = .reset level :: rest) :
    step s = .next (applyReset level { s with agenda := rest }) :=
  step_of_agenda_cons s _ rest h

/-- The data mover's turn passes while the block is held in reset. -/
theorem moverTurn_of_inReset {s : State} (h : s.inReset = true) : moverTurn s = .next s := if_pos h

theorem hostOperation_of_inReset {s : State} (f : Format) (bytes : List Byte) (h : s.inReset = true) :
    hostOperation f bytes s = .refused .heldInReset := if_pos h

/-- Settles O53: the input asserted, released, and the turns of the data mover and of the host while it stays asserted.
No state of a channel and no output reads the agenda or the input, so that `blockReset s` gives those of the next
state. -/
theorem resetEvent : Obligations.ResetEvent := by
  refine ⟨fun s rest h => ?_, fun s rest h => step_of_reset h, fun s hagenda hheld => ?_,
    fun s f b rest hagenda hheld => ?_⟩
  · exact ⟨_, step_of_reset h, rfl, rfl, rfl, rfl, rfl, rfl, rfl, rfl,
      fun n => congrArg Tcd.csr (slot_blockReset s n), rfl, rfl, rfl, rfl,
      fun n => ⟨chstate_blockReset s n, irqCh_blockReset s n⟩, irqErr_blockReset s, rfl, rfl, rfl, rfl, rfl, fun _ => rfl⟩
  · calc step s = moverTurn s := by simp only [step, nextStep, hagenda]
      _ = .next s := moverTurn_of_inReset hheld
  · calc step s = hostOperation f b { s with agenda := rest } := step_of_agenda_cons s _ rest hagenda
      _ = .refused .heldInReset := hostOperation_of_inReset f b hheld

end Sys2Proof.Machine
